-- ==== Sys2Proof/Word.lean ====
section
/-! DEFINITION. The byte, the one word of the HZ316: everything that crosses the host link or the station line is a
list of bytes (spec/11). Counts, tickets, times and station numbers are natural numbers with the ranges the spec gives. -/

namespace Sys2Proof

/-- One byte; bits are numbered 7 (most significant) to 0 (spec/11). -/
abbrev Byte := BitVec 8

/-- The byte of a number, modulo 256. -/
abbrev byte (n : Nat) : Byte := BitVec.ofNat 8 n

end Sys2Proof
end

