-- ==== Sys2Proof/Config.lean ====
section
/-! DEFINITION. What the HZ316 revision 1 fixes (capacities, identity codes, fixed times) and the free value: the order
the spec leaves open inside one step. -/

namespace Sys2Proof.Config

/-- Greatest number of queued transactions (R5). -/
def queueCapacity : Nat := 24
/-- Greatest number of queued transactions of HOST origin (R5). -/
def hostQuota : Nat := 20
/-- Number of schedule entries (R131). -/
def entryCount : Nat := 40
/-- Number of station addresses (R66). -/
def stationCount : Nat := 30
/-- Greatest number of held notices (R153). -/
def noticeCapacity : Nat := 16
/-- Greatest number of good frames in the intake queue (R170). -/
def intakeCapacity : Nat := 4
/-- Greatest number of replies in the reply queue (R173). -/
def replyCapacity : Nat := 4
/-- Greatest body of a frame: payload 66 less kind and tag (R167). -/
def maxBody : Nat := 64

/-- Vendor code of GET-INFO (R177). -/
def vendorCode : Byte := 0x45#8
/-- Part code of GET-INFO, 013Ch (R177). -/
def partCode : Nat := 0x013C
/-- Revision of GET-INFO (R177). -/
def revision : Byte := 0x01#8

/-- Sync byte of a host link frame (R167). -/
def syncByte : Byte := 0xC3#8
/-- Start value of every station line check (R24). -/
def checkSeed : Byte := 0x5A#8
/-- Line-reserved command POLL (R23). -/
def cmdPoll : Byte := 0xF0#8
/-- Line-reserved command CONFIRM (R23). -/
def cmdConfirm : Byte := 0xF1#8
/-- Line-reserved command DENY (R23). -/
def cmdDeny : Byte := 0xF2#8

/-- Gap limit of the receiver in ms (R169). -/
def gapLimitMs : Nat := 20
/-- Settle time of the oscillator in ms (R120). -/
def settleMs : Nat := 2000
/-- Longest gap between oscillator edges in ms, judged by the monitor's timer (R120). -/
def monitorMs : Nat := 4
/-- Line rest between two attempts in ms (R51). -/
def lineRestMs : Nat := 1

/-- FREE VALUE (R186). At a BUS-RESUME from PAUSED or FAULT with LATN held, "either event may be taken first": the Poll
Unit's presentation (true) or the engine's own grant decision (false). Applied to the counter State.choices; log 7. -/
opaque resumePresentsFirst : Nat → Bool

end Sys2Proof.Config
end

