-- ==== Sys2Proof/Syntax.lean ====
section
/-! DEFINITION. The commands of the HZ316: one constructor per row of spec/opcode_table.json, in the table's order.

A request command is a good request frame that the host has sent: it carries the frame's tag and its body (R167). An event
command is the event itself. The levels of input pins whose changes are no row of the table (LRDY becoming held, the rate
straps) come as operands of the commands that can read them (log 4). -/

namespace Sys2Proof

/-- The levels of the input pins that change without a row of the table, as the command finds them (log 4). -/
structure Pins where
  /-- LRDY is held by at least one station (R19). -/
  lrdyHeld : Bool
  /-- Strap HBR1 is high (R166). -/
  hbr1 : Bool
  /-- Strap HBR0 is high (R166). -/
  hbr0 : Bool
  deriving DecidableEq, Repr

/-- The thirty requests of Table 10-3. -/
inductive RequestKind where
  | getInfo | getStatus | getStats | resetPart
  | calRead | calSet | calRun | calStop | calClear
  | schWrite | schRead | schEnable | schDisable | schDelete | schList
  | stnDefine | stnRead | stnForget | stnRestore
  | busSend | busCancel | busPause | busResume | lineConfig | configRead | refAnswer
  | noteAck | noteFetch | noteReplay | noteConfig
  deriving DecidableEq, Repr

/-- What can come between two claims of one evaluation (R135): every event but a request on the schedule table, a completion
report, a start, a supply event and another evaluation (log 8). Each is the command of its name, but for `take` and
`cancelDecided`, which are no rows of the table. -/
inductive BetweenEvent where
  /-- The engine comes to its grant decision and takes the head (R135, R46). -/
  | take (lrdyHeld : Bool)
  /-- A BUS-CANCEL that comes after a decision for the queue and before its take (R9, log 21). -/
  | cancelDecided (tag : Byte) (body : List Byte) (lrdyHeld : Bool)
  | request (kind : RequestKind) (tag : Byte) (body : List Byte) (pins : Pins)
  | unknownKind (kind : Byte) (tag : Byte) (body : List Byte)
  | hrdyAsserted (pins : Pins)
  | hrdyDeasserted
  | transmitFrameEnd (pins : Pins)
  | oscillatorEdge
  | settleTimerExpiry
  | oscLoss
  | tick
  | lrdyReleased
  | lineStuckExpiry
  | readyTimerExpiry (lrdyHeld : Bool)
  | frameByteSent (lrdyHeld : Bool)
  | turnHoldExpiry (lrdyHeld : Bool)
  | replyWindowExpiry (lrdyHeld : Bool)
  | replyByteReceived (b : Byte) (lrdyHeld : Bool)
  | lineRestExpiry (lrdyHeld : Bool)
  | busyBackoffExpiry (lrdyHeld : Bool)
  | holdTimerExpiry (lrdyHeld : Bool)
  | latnHeld
  | latnReleased
  | pollHoldoffExpiry
  | pollRequestPresented (lrdyHeld : Bool)
  deriving DecidableEq, Repr

/-- An event that comes inside an evaluation, as the scan has dealt with an entry (R135, log 8). -/
structure Between where
  /-- The entry, 0 to 39, after which the event is taken. -/
  entry : Nat
  event : BetweenEvent
  deriving DecidableEq, Repr

/-- The commands: requests of the host (Table 10-3), then the events of the two interfaces, the supplies, the crystal and
the timers. `tag` and `body` are those of the request frame; `lrdyHeld` and `pins` are pin levels the command reads; `between` are the
events that come between the claims of an evaluation. -/
inductive Instr where
  | getInfo (tag : Byte) (body : List Byte)
  | getStatus (tag : Byte) (body : List Byte)
  | getStats (tag : Byte) (body : List Byte)
  | resetPart (tag : Byte) (body : List Byte) (pins : Pins)
  | calRead (tag : Byte) (body : List Byte)
  | calSet (tag : Byte) (body : List Byte)
  | calRun (tag : Byte) (body : List Byte)
  | calStop (tag : Byte) (body : List Byte)
  | calClear (tag : Byte) (body : List Byte)
  | schWrite (tag : Byte) (body : List Byte)
  | schRead (tag : Byte) (body : List Byte)
  | schEnable (tag : Byte) (body : List Byte)
  | schDisable (tag : Byte) (body : List Byte)
  | schDelete (tag : Byte) (body : List Byte)
  | schList (tag : Byte) (body : List Byte)
  | stnDefine (tag : Byte) (body : List Byte)
  | stnRead (tag : Byte) (body : List Byte)
  | stnForget (tag : Byte) (body : List Byte)
  | stnRestore (tag : Byte) (body : List Byte)
  | busSend (tag : Byte) (body : List Byte) (lrdyHeld : Bool)
  | busCancel (tag : Byte) (body : List Byte) (lrdyHeld : Bool)
  | busPause (tag : Byte) (body : List Byte)
  | busResume (tag : Byte) (body : List Byte) (lrdyHeld : Bool)
  | lineConfig (tag : Byte) (body : List Byte)
  | configRead (tag : Byte) (body : List Byte)
  | refAnswer (tag : Byte) (body : List Byte) (lrdyHeld : Bool)
  | noteAck (tag : Byte) (body : List Byte)
  | noteFetch (tag : Byte) (body : List Byte)
  | noteReplay (tag : Byte) (body : List Byte)
  | noteConfig (tag : Byte) (body : List Byte)
  /-- A good frame whose kind byte is no request code (R173). -/
  | unknownKind (kind : Byte) (tag : Byte) (body : List Byte)
  | hostByteReceived (b : Byte) (pins : Pins)
  | gapTimerExpiry
  | hrdyAsserted (pins : Pins)
  | hrdyDeasserted
  | transmitFrameEnd (pins : Pins)
  | powerUp (pins : Pins)
  | powerLoss
  | backupLoss
  | rstnAsserted
  | pinStart (pins : Pins)
  | oscillatorEdge
  | settleTimerExpiry
  | oscLoss
  | tick
  | scheduleEvaluation (lrdyHeld : Bool) (between : List Between)
  | completionReport
  | lrdyReleased
  | lineStuckExpiry
  | readyTimerExpiry (lrdyHeld : Bool)
  | frameByteSent (lrdyHeld : Bool)
  | turnHoldExpiry (lrdyHeld : Bool)
  | replyWindowExpiry (lrdyHeld : Bool)
  | replyByteReceived (b : Byte) (lrdyHeld : Bool)
  | lineRestExpiry (lrdyHeld : Bool)
  | busyBackoffExpiry (lrdyHeld : Bool)
  | holdTimerExpiry (lrdyHeld : Bool)
  | latnHeld
  | latnReleased
  | pollHoldoffExpiry
  | pollRequestPresented (lrdyHeld : Bool)
  deriving DecidableEq, Repr

end Sys2Proof
end

