-- ==== Sys2Proof/Decode.lean ====
section
/-! DEFINITION. The codes and byte orders of the host link: request codes (Table 10-3), multi-byte numbers (spec/11), the
frame envelope (R167). spec/opcode_table.json gives no row any bits, so `decodeTableWord` answers none for every word. -/

namespace Sys2Proof

/-- The command a word of the opcode table's bits spells. No row of spec/opcode_table.json gives bits (spec/98: 61 rows
without), so no word spells a command. -/
def decodeTableWord (_nbits _w : Nat) : Option Instr := none

/-- A two-byte number, most significant byte first (spec/11). -/
def bytes16 (n : Nat) : List Byte := [byte (n / 256), byte n]

/-- The number of two bytes, most significant byte first (spec/11). -/
def word16 (hi lo : Byte) : Nat := hi.toNat * 256 + lo.toNat

/-- Request codes (Table 10-3). -/
def RequestKind.code : RequestKind → Byte
  | .getInfo => 0x01#8 | .getStatus => 0x02#8 | .getStats => 0x03#8 | .resetPart => 0x04#8
  | .calRead => 0x10#8 | .calSet => 0x11#8 | .calRun => 0x12#8 | .calStop => 0x13#8 | .calClear => 0x14#8
  | .schWrite => 0x20#8 | .schRead => 0x21#8 | .schEnable => 0x22#8 | .schDisable => 0x23#8
  | .schDelete => 0x24#8 | .schList => 0x25#8
  | .stnDefine => 0x30#8 | .stnRead => 0x31#8 | .stnForget => 0x32#8 | .stnRestore => 0x33#8
  | .busSend => 0x38#8 | .busCancel => 0x39#8 | .busPause => 0x3A#8 | .busResume => 0x3B#8
  | .lineConfig => 0x3C#8 | .configRead => 0x3D#8 | .refAnswer => 0x3E#8
  | .noteAck => 0x40#8 | .noteFetch => 0x41#8 | .noteReplay => 0x42#8 | .noteConfig => 0x43#8

/-- Every request kind, in the order of Table 10-3. -/
def RequestKind.all : List RequestKind :=
  [.getInfo, .getStatus, .getStats, .resetPart, .calRead, .calSet, .calRun, .calStop, .calClear,
   .schWrite, .schRead, .schEnable, .schDisable, .schDelete, .schList,
   .stnDefine, .stnRead, .stnForget, .stnRestore,
   .busSend, .busCancel, .busPause, .busResume, .lineConfig, .configRead, .refAnswer,
   .noteAck, .noteFetch, .noteReplay, .noteConfig]

/-- The request kind of a kind byte, if the byte is a request code (R173 step 1). -/
def RequestKind.ofCode (b : Byte) : Option RequestKind := RequestKind.all.find? (fun k => k.code == b)

/-- The request can be taken while an evaluation is in progress: it reaches no schedule entry (R135) and makes no start. -/
def RequestKind.besideEvaluation : RequestKind → Bool
  | .resetPart | .schWrite | .schRead | .schEnable | .schDisable | .schDelete | .schList => false
  | .getInfo | .getStatus | .getStats | .calRead | .calSet | .calRun | .calStop | .calClear
  | .stnDefine | .stnRead | .stnForget | .stnRestore
  | .busSend | .busCancel | .busPause | .busResume | .lineConfig | .configRead | .refAnswer
  | .noteAck | .noteFetch | .noteReplay | .noteConfig => true

/-- The event reaches no schedule entry and makes no start, so it can come inside an evaluation (R135). -/
def BetweenEvent.besideEvaluation : BetweenEvent → Bool
  | .request k _ _ _ => k.besideEvaluation
  | .unknownKind k _ _ => (RequestKind.ofCode k).isNone
  | .take _ | .cancelDecided _ _ _ | .hrdyAsserted _ | .hrdyDeasserted | .transmitFrameEnd _
  | .oscillatorEdge | .settleTimerExpiry | .oscLoss | .tick
  | .lrdyReleased | .lineStuckExpiry | .readyTimerExpiry _ | .frameByteSent _ | .turnHoldExpiry _
  | .replyWindowExpiry _ | .replyByteReceived _ _ | .lineRestExpiry _ | .busyBackoffExpiry _
  | .holdTimerExpiry _ | .latnHeld | .latnReleased | .pollHoldoffExpiry | .pollRequestPresented _ => true

/-- The check byte of a host link frame: length, payload and check sum to 0 modulo 256 (R167). -/
def linkCheck (payload : List Byte) : Byte := -(byte payload.length + payload.sum)

/-- A whole host link frame: sync, length, payload, check (R167, Table 11-1). -/
def linkFrame (payload : List Byte) : List Byte :=
  Config.syncByte :: byte payload.length :: (payload ++ [linkCheck payload])

end Sys2Proof
end

