-- ==== Sys2Proof/Machine/State.lean ====
section
/-! DEFINITION. Everything the spec gives the HZ316: the records of its nine blocks, the supplies and the pins, the
commands that wait; the machine right after reset; why a step can stop. All of it is plain data. -/

namespace Sys2Proof.Machine

/-! ### Calendar (spec/07) -/

/-- A snapshot of the calendar counters (R127). -/
structure Timestamp where
  day : Nat
  hour : Nat
  minute : Nat
  second : Nat
  fraction : Nat
  deriving DecidableEq, Repr

/-- The time a second-boundary event carries (R118); its fraction is 0. -/
structure SecondBoundary where
  day : Nat
  hour : Nat
  minute : Nat
  second : Nat
  deriving DecidableEq, Repr

/-- State of the oscillator monitor (R120). -/
inductive Monitor where
  | lost | starting | stable
  deriving DecidableEq, Repr

/-- The calendar record of Table 7-1, held in the backup domain. -/
structure Calendar where
  fraction : Nat
  second : Nat
  minute : Nat
  hour : Nat
  day : Nat
  /-- Run state: true is RUNNING (R116). -/
  running : Bool
  timeValid : Bool
  oscStable : Bool
  monitor : Monitor
  /-- The settle timer in ms, present only in STARTING (R120). -/
  settleTimer : Option Nat
  /-- The monitor's timer in ms, restarted at each edge; absent in LOST, where no gap is judged (R120, R128). -/
  monitorTimer : Option Nat
  /-- Crystal periods counted toward the next tick, 0 to 127 (R117). -/
  divider : Nat
  deriving DecidableEq, Repr

/-! ### Transactions (spec/01) -/

/-- Transaction class (R1). -/
inductive TxnClass where
  | normal | urgent
  deriving DecidableEq, Repr

/-- Where a transaction came from (R1). -/
inductive Origin where
  | host
  | schedule (index generation : Nat)
  deriving DecidableEq, Repr

/-- Where a line frame is sent (R22). -/
inductive Destination where
  | station (number : Nat)
  | group (number : Nat)
  | all
  deriving DecidableEq, Repr

/-- What BUS-SEND and a TRANSACT action give of a transaction (R6, R131). -/
structure TxnSpec where
  cls : TxnClass
  dest : Destination
  subUnit : Option Nat
  command : Byte
  args : List Byte
  retryLimit : Nat
  deriving DecidableEq, Repr

/-- The transaction record of Table 1-1. -/
structure Transaction where
  ticket : Nat
  origin : Origin
  spec : TxnSpec
  admitted : Option Timestamp
  deriving DecidableEq, Repr

/-- The outcomes of Table 1-5. -/
inductive TxnOutcome where
  | done | nack | stationBusy | noReady | noReply | checkError
  | rejected | holdTimeout | cancelled | quarantined | noStation
  deriving DecidableEq, Repr

/-- The Dispatch Queue (R4, R5): the queued transactions of each class in order of admission, and the ticket counter. -/
structure DispatchQueue where
  urgent : List Transaction
  normal : List Transaction
  ticketCounter : Nat
  deriving DecidableEq, Repr

/-! ### The station line (spec/02) -/

/-- Class of a station's reply (R25). -/
inductive ReplyClass where
  | normal | query | nack | busy
  deriving DecidableEq, Repr

/-- A reply received from a station (R25, R33). -/
structure Reply where
  cls : ReplyClass
  status : Byte
  data : List Byte
  deriving DecidableEq, Repr

/-- Why an attempt failed (R34): the three failures of one attempt. -/
inductive Failure where
  | noReady | noReply | checkError
  deriving DecidableEq, Repr

/-- The attempt results of Table 2-6. -/
inductive AttemptResult where
  | reply (r : Reply)
  | sent
  | failed (f : Failure)
  | lineFault
  deriving DecidableEq, Repr

/-- Kind of an exchange (Table 2-3). -/
inductive ExchangeKind where
  | attempt | poll | confirm | deny
  deriving DecidableEq, Repr

/-- Phase of an exchange (Table 2-3). CLOSE takes no time on the line (R33), so no context stands in it. -/
inductive Phase where
  | lineCheck | send | turn | receive
  deriving DecidableEq, Repr

/-- A line frame (R22) with its check (R24). -/
structure LineFrame where
  dest : Destination
  subUnit : Option Nat
  command : Byte
  args : List Byte
  check : Byte
  deriving DecidableEq, Repr

/-- What is put on the station line: a start mark, LDT pulled low and released while LCK rests high, or one period of LCK with
LDT at a level (R20). -/
inductive LineSignal where
  | startMark
  | bit (ldt : Bool)
  deriving DecidableEq, Repr

/-- The exchange context of Table 2-3. A timer is held with the time it was started for, absent while it does not run. -/
structure Exchange where
  kind : ExchangeKind
  frame : LineFrame
  replyExpected : Bool
  phase : Phase
  bytesSent : Nat
  /-- Reply head, status byte, data bytes and check received so far, in order (R31). -/
  replySoFar : List Byte
  /-- Line-stuck timer in ms (R27). -/
  lineStuck : Option Nat
  /-- Ready timer in ms (R26). -/
  ready : Option Nat
  /-- Turn hold in microseconds, during which the part holds LRDY itself (R30). -/
  turnHold : Option Nat
  /-- Reply window in ms (R30). -/
  replyWindow : Option Nat
  deriving DecidableEq, Repr

/-! ### The Line Engine (spec/03) and referrals (spec/05) -/

/-- Engine states (R44). -/
inductive EngineState where
  | idle | active | held | paused | fault
  deriving DecidableEq, Repr

/-- The kind of the most recent grant (R47). -/
inductive LastGrant where
  | none | queue | poll
  deriving DecidableEq, Repr

/-- The current work (R43). -/
inductive Work where
  | transaction (t : Transaction)
  | poll (station : Nat)
  deriving DecidableEq, Repr

/-- The wait between two attempts with the ms it was started for (R51). -/
inductive Wait where
  | lineRest (ms : Nat)
  | busyBackoff (ms : Nat)
  deriving DecidableEq, Repr

/-- Whose question a referral holds (R84). -/
inductive ReferralOrigin where
  | ticket (t : Nat)
  | poll
  deriving DecidableEq, Repr

/-- The referral record of Table 5-1. -/
structure Referral where
  id : Nat
  station : Nat
  subUnit : Option Nat
  origin : ReferralOrigin
  /-- The question: the QUERY reply's status byte and data bytes. -/
  questionStatus : Byte
  questionData : List Byte
  opened : Option Timestamp
  /-- The hold timer in s, started at opening (R85). -/
  holdTimer : Nat
  deriving DecidableEq, Repr

/-- How a referral was closed (Table 5-3, R94). -/
inductive Closure where
  | answeredAccept | answeredReject | cancelled | timeout | fault
  deriving DecidableEq, Repr

/-- What the engine keeps of a closed referral with the current work until the work ends (R88). -/
structure Closing where
  closure : Closure
  answer : List Byte
  id : Nat
  station : Nat
  subUnit : Option Nat
  origin : ReferralOrigin
  deriving DecidableEq, Repr

/-- Line rate in kbit/s (R20). -/
inductive LineRate where
  | k12_5 | k50 | k100 | k250
  deriving DecidableEq, Repr

/-- The line configuration record of Table 3-6; times in the units named. -/
structure LineConfig where
  rate : LineRate
  readyTimeoutMs : Nat
  replyWindowMs : Nat
  lineStuckMs : Nat
  busyBackoffMs : Nat
  holdTimeoutS : Nat
  failureThreshold : Nat
  pollHoldoffMs : Nat
  phantomLimit : Nat
  deriving DecidableEq, Repr

/-- The defaults of Table 3-6. -/
def LineConfig.default : LineConfig :=
  { rate := .k100, readyTimeoutMs := 10, replyWindowMs := 20, lineStuckMs := 1000, busyBackoffMs := 50, holdTimeoutS := 5,
    failureThreshold := 3, pollHoldoffMs := 100, phantomLimit := 3 }

/-- The line counters of Table 3-7, each 0 to 65535. -/
structure LineCounters where
  exchanges : Nat
  retries : Nat
  noReady : Nat
  noReply : Nat
  checkError : Nat
  nacks : Nat
  nestedQueries : Nat
  lineFaults : Nat
  holdTimeouts : Nat
  phantomCycles : Nat
  deriving DecidableEq, Repr

/-- Every line counter 0 (R64). -/
def LineCounters.zero : LineCounters :=
  { exchanges := 0, retries := 0, noReady := 0, noReply := 0, checkError := 0, nacks := 0, nestedQueries := 0,
    lineFaults := 0, holdTimeouts := 0, phantomCycles := 0 }

/-- The Line Engine record of Table 3-1, with the referral id counter (R84) and the closing claim kept with the current
work (R88). -/
structure LineEngine where
  state : EngineState
  pausePending : Bool
  lastGrant : LastGrant
  work : Option Work
  /-- Current station (R43). -/
  station : Option Nat
  /-- Attempts begun (R49). -/
  attempts : Nat
  lastReply : Option Reply
  wait : Option Wait
  exchange : Option Exchange
  referral : Option Referral
  closing : Option Closing
  /-- Referral id counter, 1 to 255 (R84). -/
  nextReferralId : Nat
  config : LineConfig
  counters : LineCounters
  deriving DecidableEq, Repr

/-! ### Station Table (spec/04) -/

/-- Station states (R67). -/
inductive StationState where
  | undefined | unknown | present | silent | quarantined
  deriving DecidableEq, Repr

/-- Quarantine policy (R66). -/
inductive Policy where
  | quarantine | staySilent
  deriving DecidableEq, Repr

/-- The station record of Table 4-1. -/
structure Station where
  state : StationState
  subUnits : Nat
  /-- Group set: bit g is set when group g is in it (Table 11-2). -/
  groups : BitVec 8
  pollable : Bool
  policy : Policy
  failures : Nat
  lastStatus : Option Byte
  servicePending : Bool
  lastContact : Option Timestamp
  deriving DecidableEq, Repr

/-- The cleared values of Table 4-1. -/
def Station.cleared : Station :=
  { state := .undefined, subUnits := 0, groups := 0#8, pollable := false, policy := .quarantine, failures := 0,
    lastStatus := none, servicePending := false, lastContact := none }

/-! ### Poll Unit (spec/06) -/

/-- Poller states (R101). -/
inductive PollerState where
  | idle | holdoff | cycling | ignoring
  deriving DecidableEq, Repr

/-- Stage of the poll request for the in-flight member (R101). -/
inductive RequestStage where
  | none | presented | granted
  deriving DecidableEq, Repr

/-- A poll cycle (Table 6-1). -/
structure Cycle where
  remaining : List Nat
  inFlight : Option Nat
  request : RequestStage
  serviceSeen : Bool
  deriving DecidableEq, Repr

/-- The Poll Unit record of Table 6-1. -/
structure PollUnit where
  state : PollerState
  /-- Rotating pointer, 0 to 30. -/
  pointer : Nat
  phantomCount : Nat
  cycle : Option Cycle
  /-- The holdoff timer in ms, present only in HOLDOFF (R108). -/
  holdoff : Option Nat
  /-- The model's own flag (log 9): the request is presented, and the IDLE engine has not yet come to the grant decision
  that the presentation brings (R46, R186). -/
  due : Bool
  deriving DecidableEq, Repr

/-- The Poll Unit after every start (R114). -/
def PollUnit.initial : PollUnit :=
  { state := .idle, pointer := 0, phantomCount := 0, cycle := none, holdoff := none, due := false }

/-! ### Schedule Unit (spec/08) -/

/-- Entry states (R132). -/
inductive EntryState where
  | empty | armed | disabled | spent
  deriving DecidableEq, Repr

/-- The action of an entry (R131). -/
inductive Action where
  | notify (note : Byte)
  | transact (spec : TxnSpec)
  deriving DecidableEq, Repr

/-- Overlap of an entry (R137). -/
inductive Overlap where
  | skip | queue
  deriving DecidableEq, Repr

/-- Report policy of an entry (R131). -/
inductive Report where
  | none | misses | all
  deriving DecidableEq, Repr

/-- A day pattern: cycle length and phase (R134). -/
structure DayPattern where
  length : Nat
  phase : Nat
  deriving DecidableEq, Repr

/-- The definition of an entry (R131); an absent match field is ANY. -/
structure EntryDef where
  second : Nat
  minute : Option Nat
  hour : Option Nat
  day : Option DayPattern
  /-- Repeat: true is REPEAT, false is ONCE (R138). -/
  repeats : Bool
  overlap : Overlap
  report : Report
  action : Action
  deriving DecidableEq, Repr

/-- The cleared definition of Table 8-1. -/
def EntryDef.cleared : EntryDef :=
  { second := 0, minute := none, hour := none, day := none, repeats := false, overlap := .skip, report := .none,
    action := .notify 0#8 }

/-- A schedule entry (Table 8-1). -/
structure Entry where
  state : EntryState
  generation : Nat
  defn : EntryDef
  fireCount : Nat
  missCount : Nat
  lastFired : Option Timestamp
  liveTicket : Option Nat
  deriving DecidableEq, Repr

/-- An EMPTY entry of a generation (R131). -/
def Entry.cleared (generation : Nat) : Entry :=
  { state := .empty, generation := generation, defn := EntryDef.cleared, fireCount := 0, missCount := 0,
    lastFired := none, liveTicket := none }

/-- The completion record of Table 1-7. -/
structure Completion where
  ticket : Nat
  origin : Origin
  outcome : TxnOutcome
  /-- Status byte and data bytes of the last reply received. -/
  reply : Option Reply
  attempts : Nat
  admitted : Option Timestamp
  deriving DecidableEq, Repr

/-! ### Notices (spec/09) -/

/-- Start kinds (spec/00, Table 5-1). -/
inductive StartKind where
  | cold | warm | pin | soft | clear
  deriving DecidableEq, Repr

/-- The result of a firing (R139). -/
inductive FireResult where
  | queued (ticket : Nat)
  | notified (note : Byte)
  | skipped
  | droppedFull
  deriving DecidableEq, Repr

/-- Verdict frames (R95). -/
inductive Verdict where
  | confirm | deny
  deriving DecidableEq, Repr

/-- Events of a BUS-STATE notice (Table 11-3). -/
inductive BusEvent where
  | paused | fault | resumed | attentionStuck | attentionClear
  deriving DecidableEq, Repr

/-- Events of a CAL-EVENT notice (Table 11-3). -/
inductive CalEvent where
  | wrap | oscLost
  deriving DecidableEq, Repr

/-- Kind and contents of a notice (Table 9-4, Table 11-7). -/
inductive NoticeBody where
  | start (kind : StartKind) (running timeValid oscStable : Bool)
  | txnDone (c : Completion)
  | schFired (index generation : Nat) (result : FireResult) (time : SecondBoundary)
  | referral (id station : Nat) (subUnit : Option Nat) (origin : ReferralOrigin) (holdTimeout : Nat)
      (questionStatus : Byte) (questionData : List Byte)
  | refClosed (id : Nat) (closure : Closure) (verdict : Verdict) (origin : ReferralOrigin) (station : Nat)
      (subUnit : Option Nat) (outcome : TxnOutcome) (finalReply : Option Reply)
  | service (station : Nat) (status : Byte) (data : List Byte)
  | stationState (station : Nat) (old new : StationState)
  | busState (event : BusEvent)
  | calEvent (event : CalEvent) (counters : Timestamp)
  | noticeLost (count : Nat)
  deriving DecidableEq, Repr

/-- A notice record (Table 9-2). -/
structure Notice where
  seq : Nat
  timestamp : Option Timestamp
  body : NoticeBody
  transmitted : Bool
  deriving DecidableEq, Repr

/-- Delivery modes (R156). -/
inductive DeliveryMode where
  | push | pull
  deriving DecidableEq, Repr

/-- The Notice Unit: the notice queue, oldest first, and the record of Table 9-1. -/
structure NoticeUnit where
  queue : List Notice
  seqCounter : Nat
  lostCount : Nat
  mode : DeliveryMode
  credit : Nat
  attnEnable : Bool
  lastStart : StartKind
  deriving DecidableEq, Repr

/-! ### Host Link Unit (spec/10) -/

/-- The payload of a host link frame: a request, a reply or a notice (R167). -/
structure Frame where
  kind : Byte
  tag : Byte
  body : List Byte
  deriving DecidableEq, Repr

/-- Framer states (spec/10 section 10.3). -/
inductive Framer where
  | hunt | length | payload | check
  deriving DecidableEq, Repr

/-- Host link rates (Table 10-1). -/
inductive HostRate where
  | b9600 | b38400 | b115200 | b230400
  deriving DecidableEq, Repr

/-- The frame on HTXD, with the rate it began at (R166). -/
structure Sending where
  frame : Frame
  rate : HostRate
  deriving DecidableEq, Repr

/-- The link counters of R171, each 0 to 65535. -/
structure LinkCounters where
  stray : Nat
  gap : Nat
  length : Nat
  check : Nat
  overflow : Nat
  deriving DecidableEq, Repr

/-- Every link counter 0. -/
def LinkCounters.zero : LinkCounters := { stray := 0, gap := 0, length := 0, check := 0, overflow := 0 }

/-- The Host Link Unit: receiver, queues, transmitter, counters. -/
structure HostLink where
  framer : Framer
  /-- The length byte of the frame being assembled. -/
  expected : Nat
  /-- The payload bytes taken so far. -/
  assembly : List Byte
  /-- The gap timer in ms, running in LENGTH, PAYLOAD and CHECK (R169). -/
  gapTimer : Option Nat
  intake : List Frame
  replies : List Frame
  sending : Option Sending
  rate : HostRate
  counters : LinkCounters
  deriving DecidableEq, Repr

/-! ### The machine -/

/-- Everything the spec gives the part, and the commands that wait. -/
structure State where
  /-- VDD is present (spec/00 section 1.4). -/
  vdd : Bool
  /-- The backup domain has kept its contents since the last start (R128). -/
  backupKept : Bool
  /-- RSTn is asserted (R181). -/
  rstnAsserted : Bool
  /-- LATN is held by a station (R19). -/
  latnHeld : Bool
  /-- LRDY is held by a station, as the last command that read it found it (R19, log 4). -/
  lrdyHeld : Bool
  /-- HRDY is asserted (R176). -/
  hrdy : Bool
  /-- Strap HBR1 is high, as last seen (R166). -/
  hbr1 : Bool
  /-- Strap HBR0 is high, as last seen (R166). -/
  hbr0 : Bool
  link : HostLink
  notices : NoticeUnit
  cal : Calendar
  /-- Second-boundary events raised to the Schedule Unit and not yet evaluated, oldest first (R118, R135). -/
  boundaries : List SecondBoundary
  /-- The schedule table: 40 entries by index (R131). -/
  schedule : List Entry
  /-- Completion records on their way to the Schedule Unit, oldest first (R17, R141). -/
  reports : List Completion
  queue : DispatchQueue
  engine : LineEngine
  /-- The Station Table: 30 records, station n at place n - 1 (R66). -/
  stations : List Station
  poll : PollUnit
  /-- The model's own counter of free choices read (log 7). -/
  choices : Nat
  /-- The commands that wait, first in, first out. -/
  pending : List Instr
  deriving DecidableEq, Repr

/-! ### Reset -/

/-- The calendar record after a COLD start (R129). -/
def Calendar.cold : Calendar :=
  { fraction := 0, second := 0, minute := 0, hour := 0, day := 0, running := false, timeValid := false, oscStable := false,
    monitor := .lost, settleTimer := none, monitorTimer := none, divider := 0 }

/-- The Line Engine after a COLD, WARM or CLEAR start (R64, R100). -/
def LineEngine.initial : LineEngine :=
  { state := .idle, pausePending := false, lastGrant := .none, work := none, station := none, attempts := 0,
    lastReply := none, wait := none, exchange := none, referral := none, closing := none, nextReferralId := 1,
    config := LineConfig.default, counters := LineCounters.zero }

/-- The Dispatch Queue after every start (R18). -/
def DispatchQueue.initial : DispatchQueue := { urgent := [], normal := [], ticketCounter := 1 }

/-- The Notice Unit after a COLD, WARM or CLEAR start, before its START notice (R164). -/
def NoticeUnit.initial (k : StartKind) : NoticeUnit :=
  { queue := [], seqCounter := 0, lostCount := 0, mode := .push, credit := 0, attnEnable := true, lastStart := k }

/-- The Host Link Unit after a COLD or WARM start at a rate (R181). -/
def HostLink.initial (r : HostRate) : HostLink :=
  { framer := .hunt, expected := 0, assembly := [], gapTimer := none, intake := [], replies := [], sending := none,
    rate := r, counters := LinkCounters.zero }

/-- The machine right after reset: a COLD start has ended, its START notice is appended and not yet sent. The levels of
the input pins are the model's choice (log 5): RSTn, LATN and LRDY released, HRDY deasserted, both straps low. -/
def State.reset : State :=
  { vdd := true, backupKept := true, rstnAsserted := false, latnHeld := false, lrdyHeld := false, hrdy := false,
    hbr1 := false, hbr0 := false
    link := HostLink.initial .b9600
    notices :=
      { NoticeUnit.initial .cold with
        queue := [{ seq := 0, timestamp := none, body := .start .cold false false false, transmitted := false }]
        seqCounter := 1 }
    cal := Calendar.cold
    boundaries := []
    schedule := List.replicate 40 (Entry.cleared 0)
    reports := []
    queue := DispatchQueue.initial
    engine := LineEngine.initial
    stations := List.replicate 30 Station.cleared
    poll := PollUnit.initial
    choices := 0
    pending := [] }

/-! ### Why a step can stop -/

/-- The spec stops the part nowhere: a refused request is answered with a status (R174), a failure on the line is an
attempt result (R34), a line fault is the engine state FAULT (R58). So there is no fault, and no command raises one. -/
inductive Fault where
  deriving DecidableEq, Repr

/-- Why a command has no meaning here. -/
inductive Refusal where
  /-- Raised by exec for a row of the opcode table that is not modelled yet; safe, since nothing is then claimed of it. -/
  | notModelled (mnemonic : String)
  deriving DecidableEq, Repr

end Sys2Proof.Machine
end

