-- ==== Sys2Proof/Machine/Flags.lean ====
section
/-! DEFINITION. The flag computations of the HZ316: saturating and wrapping counts, the line check, the service flag, the
calendar flags byte, and the output pins as functions of the state. -/

namespace Sys2Proof.Machine

/-- A count that rises by 1 and stays at its greatest value (R62, R154, R171, R131). -/
def sat (max n : Nat) : Nat := if n < max then n + 1 else max

/-- A 16-bit counter's rise (R62, R171). -/
def bump (n : Nat) : Nat := sat 65535 n

/-- The next ticket or counter value, 65535 wrapping to 1 (R3). -/
def nextTicket (t : Nat) : Nat := if t < 65535 then t + 1 else 1

/-- The next referral id, 255 wrapping to 1 (R84). -/
def nextReferralId (n : Nat) : Nat := if n < 255 then n + 1 else 1

/-- A count modulo 256 (sequence numbers R153, generations R133). -/
def wrap256 (n : Nat) : Nat := (n + 1) % 256

/-- A yes/no or true/false byte (Table 11-2). -/
def boolByte (b : Bool) : Byte := if b then 0x01#8 else 0x00#8

/-- The check of a frame or reply: 5Ah combined by XOR with every byte, in order (R24). -/
def lineCheck (bytes : List Byte) : Byte := bytes.foldl (· ^^^ ·) Config.checkSeed

/-- The bits of a byte in the order they are moved, least significant first: on LDT one in each period of LCK (R20), on HRXD
and HTXD between start and stop bit (R166). -/
def byteBits (b : Byte) : List Bool := (List.range 8).map b.getLsbD

/-- The byte whose bits are sampled in this order, the least significant first (R20, R166). -/
def byteOfBits : List Bool → Byte
  | [] => 0x00#8
  | b :: rest => (byteOfBits rest <<< 1) ||| (if b then 0x01#8 else 0x00#8)

/-- The service flag of a status byte: bit 7 (Table 11-2). -/
def serviceFlag (status : Byte) : Bool := status.msb

/-- The calendar flags byte: bit 0 RUNNING, bit 1 TIME-VALID, bit 2 OSC-STABLE (Table 11-2). -/
def calFlags (running timeValid oscStable : Bool) : Byte :=
  byte ((if running then 1 else 0) + (if timeValid then 2 else 0) + (if oscStable then 4 else 0))

/-- The calendar's counters as they stand (R122). -/
def Calendar.counters (c : Calendar) : Timestamp :=
  { day := c.day, hour := c.hour, minute := c.minute, second := c.second, fraction := c.fraction }

/-- A timestamp: the counters while TIME-VALID is true, absent otherwise (R127). -/
def Calendar.stamp (c : Calendar) : Option Timestamp := if c.timeValid then some c.counters else none

/-- The host link rate the straps select (Table 10-1). -/
def strapRate (hbr1 hbr0 : Bool) : HostRate :=
  match hbr1, hbr0 with
  | false, false => .b9600
  | false, true => .b38400
  | true, false => .b115200
  | true, true => .b230400

/-- One byte time in microseconds (R20). -/
def LineRate.byteTimeUs : LineRate → Nat
  | .k12_5 => 640 | .k50 => 160 | .k100 => 80 | .k250 => 32

/-- The Host Link Unit works: VDD is present and RSTn is not asserted (R181). -/
def State.linkOn (s : State) : Bool := s.vdd && !s.rstnAsserted

/-- ATTN is asserted: ATTN enable is yes and a notice is held, with VDD present and RSTn not asserted (R162). -/
def State.attnAsserted (s : State) : Bool := s.linkOn && s.notices.attnEnable && !s.notices.queue.isEmpty

/-- A frame is on HTXD; otherwise HTXD rests high (R166, R181). -/
def State.htxdBusy (s : State) : Bool := s.link.sending.isSome

/-- The part itself holds LRDY: during the turn hold alone (R19, R30). -/
def State.holdsLrdy (s : State) : Bool :=
  match s.engine.exchange with
  | some x => x.turnHold.isSome
  | none => false

/-- LCK high, LDT released and LRDY not held by the part: the condition of R19 between exchanges. -/
def State.lineAtRest (s : State) : Bool := s.engine.exchange.isNone

/-- The queue count (R5). -/
def DispatchQueue.count (q : DispatchQueue) : Nat := q.urgent.length + q.normal.length

/-- The transaction's origin is HOST. -/
def Transaction.isHost (t : Transaction) : Bool := t.origin == .host

/-- The HOST count (R5). -/
def DispatchQueue.hostCount (q : DispatchQueue) : Nat := q.urgent.countP (·.isHost) + q.normal.countP (·.isHost)

end Sys2Proof.Machine
end

