-- ==== Sys2Proof/Machine/Encode.lean ====
section
/-! DEFINITION. The bytes the part sends: codes of Table 11-3, field packings of Table 11-2, reply bodies (Table 11-4),
notice bodies (Table 11-7), the line frame (Table 11-8). -/

namespace Sys2Proof.Machine

/-! ### Codes (Table 10-4, Table 11-3) -/

/-- Reply statuses (Table 10-4). -/
inductive ReplyStatus where
  | ok | badLength | unknownKind | badArg | state | full | notFound | busy | stale | notReady
  deriving DecidableEq, Repr

/-- Status codes (Table 10-4). -/
def ReplyStatus.code : ReplyStatus → Byte
  | .ok => 0x00#8 | .badLength => 0x01#8 | .unknownKind => 0x02#8 | .badArg => 0x03#8 | .state => 0x04#8
  | .full => 0x05#8 | .notFound => 0x06#8 | .busy => 0x07#8 | .stale => 0x08#8 | .notReady => 0x09#8

def TxnClass.code : TxnClass → Byte
  | .normal => 0x00#8 | .urgent => 0x01#8

def TxnOutcome.code : TxnOutcome → Nat
  | .done => 0 | .nack => 1 | .stationBusy => 2 | .noReady => 3 | .noReply => 4 | .checkError => 5
  | .rejected => 6 | .holdTimeout => 7 | .cancelled => 8 | .quarantined => 9 | .noStation => 10

def Closure.code : Closure → Byte
  | .answeredAccept => 0x00#8 | .answeredReject => 0x01#8 | .cancelled => 0x02#8 | .timeout => 0x03#8 | .fault => 0x04#8

def Verdict.code : Verdict → Byte
  | .confirm => 0x00#8 | .deny => 0x01#8

def ReplyClass.code : ReplyClass → Byte
  | .normal => 0x01#8 | .query => 0x02#8 | .nack => 0x03#8 | .busy => 0x04#8

def EngineState.code : EngineState → Byte
  | .idle => 0x00#8 | .active => 0x01#8 | .held => 0x02#8 | .paused => 0x03#8 | .fault => 0x04#8

def PollerState.code : PollerState → Byte
  | .idle => 0x00#8 | .holdoff => 0x01#8 | .cycling => 0x02#8 | .ignoring => 0x03#8

def StationState.code : StationState → Byte
  | .undefined => 0x00#8 | .unknown => 0x01#8 | .present => 0x02#8 | .silent => 0x03#8 | .quarantined => 0x04#8

def Policy.code : Policy → Byte
  | .quarantine => 0x00#8 | .staySilent => 0x01#8

def EntryState.code : EntryState → Nat
  | .empty => 0 | .armed => 1 | .disabled => 2 | .spent => 3

def Overlap.code : Overlap → Byte
  | .skip => 0x00#8 | .queue => 0x01#8

def Report.code : Report → Byte
  | .none => 0x00#8 | .misses => 0x01#8 | .all => 0x02#8

def FireResult.code : FireResult → Byte
  | .queued _ => 0x00#8 | .notified _ => 0x01#8 | .skipped => 0x02#8 | .droppedFull => 0x03#8

def StartKind.code : StartKind → Byte
  | .cold => 0x00#8 | .warm => 0x01#8 | .pin => 0x02#8 | .soft => 0x03#8 | .clear => 0x04#8

def DeliveryMode.code : DeliveryMode → Byte
  | .push => 0x00#8 | .pull => 0x01#8

def BusEvent.code : BusEvent → Byte
  | .paused => 0x00#8 | .fault => 0x01#8 | .resumed => 0x02#8 | .attentionStuck => 0x03#8 | .attentionClear => 0x04#8

def CalEvent.code : CalEvent → Byte
  | .wrap => 0x00#8 | .oscLost => 0x01#8

def LineRate.code : LineRate → Byte
  | .k12_5 => 0x00#8 | .k50 => 0x01#8 | .k100 => 0x02#8 | .k250 => 0x03#8

def HostRate.code : HostRate → Byte
  | .b9600 => 0x00#8 | .b38400 => 0x01#8 | .b115200 => 0x02#8 | .b230400 => 0x03#8

/-- Notice codes (Table 9-4). -/
def NoticeBody.kindCode : NoticeBody → Byte
  | .start .. => 0x60#8 | .txnDone _ => 0x61#8 | .schFired .. => 0x62#8 | .referral .. => 0x63#8 | .refClosed .. => 0x64#8
  | .service .. => 0x65#8 | .stationState .. => 0x66#8 | .busState _ => 0x67#8 | .calEvent .. => 0x68#8
  | .noticeLost _ => 0x69#8

/-! ### Common fields (Table 11-2) -/

/-- The six bytes of a timestamp. -/
def Timestamp.bytes (t : Timestamp) : List Byte :=
  bytes16 t.day ++ [byte t.hour, byte t.minute, byte t.second, byte t.fraction]

/-- The seven bytes of an optional timestamp: presence byte, then the timestamp or six zeros. -/
def stampBytes : Option Timestamp → List Byte
  | some t => 0x01#8 :: t.bytes
  | none => List.replicate 7 0x00#8

/-- A sub-unit in notices and replies: FFh when absent. -/
def subUnitByte : Option Nat → Byte
  | some n => byte n
  | none => 0xFF#8

/-- The destination byte: bit 7 a sub-unit, bits 6 to 5 the kind, bits 4 to 0 the number. -/
def destinationByte (d : Destination) (subUnit : Option Nat) : Byte :=
  (if subUnit.isSome then 0x80#8 else 0x00#8) |||
    match d with
    | .station n => byte n
    | .group n => 0x20#8 ||| byte n
    | .all => 0x40#8

/-- A ticket field: 0000h where it has none. -/
def ticketBytes : Option Nat → List Byte
  | some t => bytes16 t
  | none => bytes16 0

/-- The origin field of REFERRAL and REF-CLOSED: 0000h for POLL. -/
def ReferralOrigin.bytes : ReferralOrigin → List Byte
  | .ticket t => bytes16 t
  | .poll => bytes16 0

/-! ### Station line (Table 11-8) -/

/-- The bytes of a line frame that precede its check (R22). -/
def lineBody (d : Destination) (subUnit : Option Nat) (command : Byte) (args : List Byte) : List Byte :=
  destinationByte d subUnit :: ((subUnit.map byte).toList ++ command :: byte args.length :: args)

/-- A line frame with its check, computed as the exchange context is built (R24). -/
def LineFrame.build (d : Destination) (subUnit : Option Nat) (command : Byte) (args : List Byte) : LineFrame :=
  { dest := d, subUnit := subUnit, command := command, args := args, check := lineCheck (lineBody d subUnit command args) }

/-- The bytes of a line frame as they are sent (Table 11-8). -/
def LineFrame.bytes (f : LineFrame) : List Byte := lineBody f.dest f.subUnit f.command f.args ++ [f.check]

/-- Eight periods of LCK move one byte (R20). -/
def byteSignals (b : Byte) : List LineSignal := (byteBits b).map .bit

/-- A line frame on the line: its start mark, then its bytes (R20, R29). -/
def LineFrame.signals (f : LineFrame) : List LineSignal := .startMark :: f.bytes.flatMap byteSignals

/-- What the part has put on LDT in an exchange so far (R20, R27, R29): nothing before SEND, then the start mark and the bytes
clocked, of which a failed ready wait leaves the rest unsent. -/
def Exchange.sentSignals (x : Exchange) : List LineSignal :=
  match x.phase with
  | .lineCheck => []
  | .send | .turn | .receive => .startMark :: (x.frame.bytes.take x.bytesSent).flatMap byteSignals

/-- One character of the host link, as levels of HRXD or HTXD: start bit, eight data bits, stop bit (R166). -/
def character (b : Byte) : List Bool := false :: byteBits b ++ [true]

/-! ### Definitions and records in replies (Table 11-5, Table 11-6) -/

/-- class; destination; sub-unit; command; retry limit; argument count; arguments. The sub-unit byte is 00h when absent. -/
def TxnSpec.bytes (t : TxnSpec) : List Byte :=
  t.cls.code :: destinationByte t.dest t.subUnit :: byte (t.subUnit.getD 0) :: t.command :: byte t.retryLimit ::
    byte t.args.length :: t.args

/-- An optional match field: FFh is ANY. -/
def anyByte : Option Nat → Byte
  | some n => byte n
  | none => 0xFF#8

/-- The entry definition of Table 11-5; the phase is 00h when the cycle length is ANY. -/
def EntryDef.bytes (d : EntryDef) : List Byte :=
  [byte d.second, anyByte d.minute, anyByte d.hour, anyByte (d.day.map (·.length)), byte ((d.day.map (·.phase)).getD 0),
    boolByte d.repeats, d.overlap.code, d.report.code] ++
    match d.action with
    | .notify note => [0x00#8, note]
    | .transact spec => 0x01#8 :: spec.bytes

/-- The nine bytes of Table 11-6. -/
def LineConfig.bytes (c : LineConfig) : List Byte :=
  [c.rate.code, byte c.readyTimeoutMs, byte c.replyWindowMs, byte (c.lineStuckMs / 100), byte (c.busyBackoffMs / 10),
    byte c.holdTimeoutS, byte c.failureThreshold, byte (c.pollHoldoffMs / 10), byte c.phantomLimit]

/-- The fifteen counters of GET-STATS in order, two bytes each (Table 11-4). -/
def statsBytes (l : LinkCounters) (e : LineCounters) : List Byte :=
  ([l.stray, l.gap, l.length, l.check, l.overflow, e.exchanges, e.retries, e.noReady, e.noReply, e.checkError, e.nacks,
    e.nestedQueries, e.lineFaults, e.holdTimeouts, e.phantomCycles].map bytes16).flatten

/-- CAL-READ: the timestamp fields and the calendar flags. -/
def Calendar.readBytes (c : Calendar) : List Byte := c.counters.bytes ++ [calFlags c.running c.timeValid c.oscStable]

/-- SCH-READ: every field of an entry (R144). -/
def Entry.readBytes (e : Entry) : List Byte :=
  byte e.state.code :: byte e.generation :: (e.defn.bytes ++ bytes16 e.fireCount ++ [byte e.missCount] ++
    stampBytes e.lastFired ++ ticketBytes e.liveTicket)

/-- One state byte of SCH-LIST: entry 4k + j in bits 2j+1 and 2j. -/
def packStates : List Entry → List Byte
  | a :: b :: c :: d :: rest =>
    byte (a.state.code + 4 * b.state.code + 16 * c.state.code + 64 * d.state.code) :: packStates rest
  | _ => []

/-- SCH-LIST: ten state bytes, then the forty generations (R148). -/
def listBytes (t : List Entry) : List Byte := packStates t ++ t.map (fun e => byte e.generation)

/-- STN-READ: every field of a station record (R69). -/
def Station.readBytes (n : Nat) (r : Station) : List Byte :=
  [byte n, r.state.code, byte r.subUnits, r.groups, boolByte r.pollable, r.policy.code, byte r.failures,
    boolByte r.lastStatus.isSome, r.lastStatus.getD 0x00#8, boolByte r.servicePending] ++ stampBytes r.lastContact

/-- GET-INFO: identity, capacities and the strapped rate (R177). -/
def infoBytes (rate : HostRate) : List Byte :=
  Config.vendorCode :: (bytes16 Config.partCode ++
    [Config.revision, byte Config.queueCapacity, byte Config.hostQuota, byte Config.entryCount, byte Config.stationCount,
      byte Config.noticeCapacity, byte Config.intakeCapacity, byte Config.replyCapacity, rate.code])

/-- GET-STATUS: the fields of Table 10-5 (R178). -/
def State.statusBytes (s : State) : List Byte :=
  [s.engine.state.code, boolByte s.engine.pausePending, byte s.queue.count, byte s.queue.hostCount,
    byte ((s.engine.referral.map (·.id)).getD 0), s.poll.state.code,
    calFlags s.cal.running s.cal.timeValid s.cal.oscStable, byte s.notices.queue.length, byte s.notices.lostCount,
    s.notices.mode.code, s.notices.lastStart.code]

/-! ### Notices (Table 11-7) -/

/-- Status byte and data bytes of a reply. -/
def Reply.statusData (r : Reply) : List Byte := r.status :: r.data

/-- The TXN-DONE body: ticket; origin byte; generation; outcome byte; admitted time; reply. -/
def Completion.bytes (c : Completion) : List Byte :=
  let index := match c.origin with
    | .host => 0x3F
    | .schedule i _ => i
  let generation := match c.origin with
    | .host => 0
    | .schedule _ g => g
  bytes16 c.ticket ++
    [byte (index + if c.admitted.isSome then 128 else 0), byte generation, byte (c.outcome.code + 16 * c.attempts)] ++
    ((c.admitted.map Timestamp.bytes).getD []) ++ ((c.reply.map Reply.statusData).getD [])

/-- The value field of SCH-FIRED. -/
def FireResult.value : FireResult → List Byte
  | .queued t => bytes16 t
  | .notified n => [0x00#8, n]
  | .skipped => bytes16 0
  | .droppedFull => bytes16 0

/-- The kind-specific body of a notice (Table 11-7). -/
def NoticeBody.bytes : NoticeBody → List Byte
  | .start k r v o => [k.code, calFlags r v o]
  | .txnDone c => c.bytes
  | .schFired i g r t => byte i :: byte g :: r.code :: (r.value ++ bytes16 t.day ++ [byte t.hour, byte t.minute, byte t.second])
  | .referral i st su o h qs qd => byte i :: byte st :: subUnitByte su :: (o.bytes ++ byte h :: qs :: qd)
  | .refClosed i c v o st su oc fr =>
    byte i :: c.code :: v.code :: (o.bytes ++ [byte st, subUnitByte su, byte oc.code] ++
      ((fr.map (fun r => r.cls.code :: r.statusData)).getD []))
  | .service st b d => byte st :: b :: d
  | .stationState st a b => [byte st, a.code, b.code]
  | .busState e => [e.code]
  | .calEvent e t => e.code :: t.bytes
  | .noticeLost n => [byte n]

/-- The frame of a notice: its code, its sequence number, its optional timestamp and its body (R167, section 11.4). -/
def Notice.frame (n : Notice) : Frame :=
  { kind := n.body.kindCode, tag := byte n.seq, body := stampBytes n.timestamp ++ n.body.bytes }

/-- The bytes of a frame on the host link (R167). -/
def Frame.bytes (f : Frame) : List Byte := linkFrame (f.kind :: f.tag :: f.body)

end Sys2Proof.Machine
end

