-- ==== Sys2Proof/Machine/Operands.lean ====
section
/-! DEFINITION. Every operand form of the request bodies: which lengths fit (R173, section 11.3), and the fields read from
a body with their ranges (R183). A reader answers none where the owning chapter answers BAD-ARG. -/

namespace Sys2Proof.Machine

/-! ### Codes read from a body (Table 11-3); none is a code the table does not define -/

def TxnClass.ofCode (b : Byte) : Option TxnClass :=
  if b = 0x00#8 then some .normal else if b = 0x01#8 then some .urgent else none

def Policy.ofCode (b : Byte) : Option Policy :=
  if b = 0x00#8 then some .quarantine else if b = 0x01#8 then some .staySilent else none

def Overlap.ofCode (b : Byte) : Option Overlap :=
  if b = 0x00#8 then some .skip else if b = 0x01#8 then some .queue else none

def Report.ofCode (b : Byte) : Option Report :=
  if b = 0x00#8 then some .none else if b = 0x01#8 then some .misses else if b = 0x02#8 then some .all else Option.none

def DeliveryMode.ofCode (b : Byte) : Option DeliveryMode :=
  if b = 0x00#8 then some .push else if b = 0x01#8 then some .pull else none

def LineRate.ofCode (b : Byte) : Option LineRate :=
  if b = 0x00#8 then some .k12_5 else if b = 0x01#8 then some .k50 else if b = 0x02#8 then some .k100
  else if b = 0x03#8 then some .k250 else none

/-- A yes/no byte, REPEAT/ONCE or a clear flag. -/
def boolOfByte (b : Byte) : Option Bool :=
  if b = 0x00#8 then some false else if b = 0x01#8 then some true else none

/-- The verdict of REF-ANSWER: true is ACCEPT (Table 11-3: 00h ACCEPT, 01h REJECT). -/
def acceptOfByte (b : Byte) : Option Bool :=
  if b = 0x00#8 then some true else if b = 0x01#8 then some false else none

/-- The scope of RESET-PART as its start kind (Table 11-3: 00h SOFT, 01h CLEAR). -/
def scopeOfByte (b : Byte) : Option StartKind :=
  if b = 0x00#8 then some .soft else if b = 0x01#8 then some .clear else none

/-- The initial state of SCH-WRITE: ARMED or DISABLED (R142). -/
def initialOfByte (b : Byte) : Option EntryState :=
  if b = 0x01#8 then some .armed else if b = 0x02#8 then some .disabled else none

/-- A number in a range. -/
def inRange (lo hi : Nat) (b : Byte) : Option Nat := if lo ≤ b.toNat ∧ b.toNat ≤ hi then some b.toNat else none

/-- A match field: ANY is FFh (Table 11-5). -/
def anyOr (hi : Nat) (b : Byte) : Option (Option Nat) :=
  if b = 0xFF#8 then some none else (inRange 0 hi b).map some

/-! ### Body lengths (R173 step 2, section 11.3) -/

/-- The body's length fits its kind. -/
def bodyFits (k : RequestKind) (body : List Byte) : Bool :=
  body.length ≤ Config.maxBody &&
  match k with
  | .getInfo | .getStatus | .calRead | .calRun | .calStop | .calClear | .schList | .busPause | .busResume | .configRead
  | .noteReplay => body.length == 0
  | .getStats | .resetPart | .schRead | .schEnable | .schDisable | .schDelete | .stnRead | .stnForget | .stnRestore
  | .noteAck | .noteFetch => body.length == 1
  | .busCancel | .noteConfig => body.length == 2
  | .calSet | .stnDefine => body.length == 5
  | .lineConfig => body.length == 9
  | .refAnswer =>
    match body[2]? with
    | some n => body.length == 3 + n.toNat
    | none => false
  | .busSend =>
    match body[5]? with
    | some n => body.length == 6 + n.toNat
    | none => false
  | .schWrite =>
    match body[10]? with
    | none => false
    | some a =>
      if a = 0x01#8 then
        match body[16]? with
        | some n => body.length == 17 + n.toNat
        | none => false
      else body.length == 12

/-! ### Fields -/

/-- The destination byte: its destination and whether a sub-unit is given. None for kind bits 11, a station number
outside 1 to 30, a group number outside 0 to 7, or kind ALL with number bits not 0 (R6, R142, R183). -/
def destinationOfByte (b : Byte) : Option (Destination × Bool) :=
  let number := (b &&& 0x1F#8).toNat
  let dest : Option Destination :=
    match (b >>> 5).toNat % 4 with
    | 0 => if 1 ≤ number ∧ number ≤ Config.stationCount then some (.station number) else none
    | 1 => if number ≤ 7 then some (.group number) else none
    | 2 => if number = 0 then some .all else none
    | _ => none
  dest.map (fun d => (d, b.msb))

/-- The sub-unit of a destination: absent when bit 7 is clear, whatever the byte holds (R183); refused with kind GROUP or
ALL, or over 15 (R6 step 3). -/
def subUnitOf (d : Destination) (given : Bool) (b : Byte) : Option (Option Nat) :=
  if given then
    match d with
    | .station _ => (inRange 0 15 b).map some
    | .group _ => none
    | .all => none
  else some none

/-- class; destination; sub-unit; command; retry limit; argument count; arguments (R6 steps 1 to 3, R142 step 4). -/
def txnSpecOf : List Byte → Option TxnSpec
  | cls :: dest :: sub :: command :: retry :: count :: args =>
    match TxnClass.ofCode cls, destinationOfByte dest, inRange 0 3 retry with
    | some c, some (d, given), some r =>
      match subUnitOf d given sub with
      | some u =>
        if command.toNat < 0xF0 ∧ count.toNat ≤ 8 then
          some { cls := c, dest := d, subUnit := u, command := command, args := args, retryLimit := r }
        else none
      | none => none
    | _, _, _ => none
  | _ => none

/-- The day pattern: ANY, or a cycle length 1 to 64 with a phase less than it (R142 step 2). -/
def dayOf (length phase : Byte) : Option (Option DayPattern) :=
  if length = 0xFF#8 then some none
  else if 1 ≤ length.toNat ∧ length.toNat ≤ 64 ∧ phase.toNat < length.toNat then
    some (some { length := length.toNat, phase := phase.toNat })
  else none

/-- The action: NOTIFY with its note, or TRANSACT with its parts (R142 steps 3 and 4). -/
def actionOf : List Byte → Option Action
  | code :: rest =>
    if code = 0x00#8 then
      match rest with
      | [note] => some (.notify note)
      | _ => none
    else if code = 0x01#8 then (txnSpecOf rest).map .transact
    else none
  | [] => none

/-- The entry definition of Table 11-5 (R142 steps 1 to 4). -/
def entryDefOf : List Byte → Option EntryDef
  | sec :: min :: hr :: len :: ph :: rep :: ov :: rpt :: action =>
    match inRange 0 59 sec, anyOr 59 min, anyOr 23 hr, dayOf len ph with
    | some second, some minute, some hour, some day =>
      match boolOfByte rep, Overlap.ofCode ov, Report.ofCode rpt, actionOf action with
      | some r, some o, some p, some a =>
        some { second := second, minute := minute, hour := hour, day := day, repeats := r, overlap := o, report := p,
               action := a }
      | _, _, _, _ => none
    | _, _, _, _ => none
  | _ => none

/-- The nine bytes of Table 11-6 in their ranges (R61 step 2). -/
def lineConfigOf : List Byte → Option LineConfig
  | [rate, ready, window, stuck, backoff, hold, threshold, holdoff, phantom] =>
    match LineRate.ofCode rate, inRange 1 255 ready, inRange 1 255 window, inRange 1 50 stuck, inRange 1 255 backoff with
    | some r, some rt, some rw, some ls, some bb =>
      match inRange 1 60 hold, inRange 1 15 threshold, inRange 1 255 holdoff, inRange 1 15 phantom with
      | some h, some f, some p, some l =>
        some { rate := r, readyTimeoutMs := rt, replyWindowMs := rw, lineStuckMs := 100 * ls, busyBackoffMs := 10 * bb,
               holdTimeoutS := h, failureThreshold := f, pollHoldoffMs := 10 * p, phantomLimit := l }
      | _, _, _, _ => none
    | _, _, _, _, _ => none
  | _ => none

/-- A reply head: its class and data count; none where it names no class or a count above 8 (R32, R185). -/
def replyHeadOf (b : Byte) : Option (ReplyClass × Nat) :=
  let count := (b &&& 0x0F#8).toNat
  if 8 < count then none
  else
    match (b >>> 4).toNat with
    | 1 => some (.normal, count)
    | 2 => some (.query, count)
    | 3 => some (.nack, count)
    | 4 => some (.busy, count)
    | _ => none

end Sys2Proof.Machine
end

