-- ==== Sys2Proof/Machine/Ops.lean ====
section
/-! DEFINITION. The named operations every block uses: raising a notice (R153, R154), the second-boundary and completion
paths, the station and entry records, the Dispatch Queue (R3 to R9), the frame placed in the intake queue, the reply placed
in the reply queue. -/

namespace Sys2Proof.Machine

/-! ### Notices (R153, R154) -/

/-- A notice is raised: appended with the next sequence number while fewer than 16 are held (R153), otherwise dropped and
counted as lost (R154). -/
def NoticeUnit.raise (ts : Option Timestamp) (b : NoticeBody) (u : NoticeUnit) : NoticeUnit :=
  if u.queue.length < Config.noticeCapacity then
    { u with
      queue := u.queue ++ [{ seq := u.seqCounter, timestamp := ts, body := b, transmitted := false }]
      seqCounter := wrap256 u.seqCounter }
  else { u with lostCount := sat 255 u.lostCount }

/-- A block raises a notice; the timestamp is taken as it is raised (R127, R153). -/
def raise (b : NoticeBody) (s : State) : State := { s with notices := s.notices.raise s.cal.stamp b }

/-! ### Tables -/

/-- The record of station n, 1 to 30 (R66). -/
def State.stationAt (s : State) (n : Nat) : Station := s.stations.getD (n - 1) Station.cleared

/-- The record of station n is written. -/
def setStation (n : Nat) (r : Station) (s : State) : State := { s with stations := s.stations.set (n - 1) r }

/-- Entry i, 0 to 39 (R131). -/
def State.entryAt (s : State) (i : Nat) : Entry := s.schedule.getD i (Entry.cleared 0)

/-- Entry i is written. -/
def setEntry (i : Nat) (e : Entry) (s : State) : State := { s with schedule := s.schedule.set i e }

/-- A station is defined: its state is not UNDEFINED (R67). -/
def Station.defined (r : Station) : Bool := r.state != .undefined

/-- A station that counts as a group member and joins poll cycles: UNKNOWN, PRESENT or SILENT (Table 4-2). -/
def Station.inService (r : Station) : Bool := r.state != .undefined && r.state != .quarantined

/-- The sub-unit fits the station: given and less than the count, or absent with count 0 (R77). -/
def Station.fits (r : Station) (subUnit : Option Nat) : Bool :=
  match subUnit with
  | some u => u < r.subUnits
  | none => r.subUnits == 0

/-! ### Dispatch Queue (spec/01) -/

/-- The queued transactions, head first (R4). -/
def DispatchQueue.order (q : DispatchQueue) : List Transaction := q.urgent ++ q.normal

/-- The ticket of the transaction in the Line Engine, RUNNING or HELD (R2). -/
def LineEngine.ticket (e : LineEngine) : Option Nat :=
  match e.work with
  | some (.transaction t) => some t.ticket
  | _ => none

/-- The tickets of the live transactions (R2). -/
def State.liveTickets (s : State) : List Nat := s.queue.order.map (·.ticket) ++ s.engine.ticket.toList

/-- The first ticket from `t` on that no live transaction carries; `fuel` bounds the steps (R3). -/
def freeTicket (live : List Nat) : Nat → Nat → Nat
  | 0, t => t
  | fuel + 1, t => if t ∈ live then freeTicket live fuel (nextTicket t) else t

/-- The ticket the next admission gets (R3). -/
def State.ticketToGive (s : State) : Nat := freeTicket s.liveTickets s.liveTickets.length s.queue.ticketCounter

/-- The record behind the last queued transaction of its class (R7). -/
def DispatchQueue.place (t : Transaction) (q : DispatchQueue) : DispatchQueue :=
  match t.spec.cls with
  | .urgent => { q with urgent := q.urgent ++ [t] }
  | .normal => { q with normal := q.normal ++ [t] }

/-- The record an admission builds (R1, R7, R8). -/
def State.newTransaction (s : State) (origin : Origin) (spec : TxnSpec) : Transaction :=
  { ticket := s.ticketToGive, origin := origin, spec := spec, admitted := s.cal.stamp }

/-- Admission: the record is built and placed, and the ticket counter moves past the ticket given (R3, R7, R8). -/
def admission (origin : Origin) (spec : TxnSpec) (s : State) : State :=
  { s with queue :=
      { s.queue.place (s.newTransaction origin spec) with ticketCounter := nextTicket s.ticketToGive } }

/-- The queue position of the newest transaction of a class (R4). -/
def DispatchQueue.lastPosition (c : TxnClass) (q : DispatchQueue) : Nat :=
  match c with
  | .urgent => q.urgent.length
  | .normal => q.urgent.length + q.normal.length

/-- The head leaves the queue: the oldest URGENT transaction, else the oldest NORMAL one (R4, R9). -/
def DispatchQueue.takeHead (q : DispatchQueue) : Option (Transaction × DispatchQueue) :=
  match q.urgent with
  | t :: rest => some (t, { q with urgent := rest })
  | [] =>
    match q.normal with
    | t :: rest => some (t, { q with normal := rest })
    | [] => none

/-- The queued transaction that carries a ticket. -/
def DispatchQueue.find (ticket : Nat) (q : DispatchQueue) : Option Transaction :=
  q.order.find? (fun t => t.ticket == ticket)

/-- The queued transaction with a ticket leaves; the order of the rest is unchanged (R12). -/
def DispatchQueue.remove (ticket : Nat) (q : DispatchQueue) : DispatchQueue :=
  { q with urgent := q.urgent.filter (fun t => t.ticket != ticket), normal := q.normal.filter (fun t => t.ticket != ticket) }

/-- The start-time checks of Table 1-4: the outcome of a transaction that completes at take, or none (R10). -/
def startCheck (t : Transaction) (s : State) : Option TxnOutcome :=
  match t.spec.dest with
  | .station n =>
    let r := s.stationAt n
    if !r.defined then some .noStation
    else if !r.fits t.spec.subUnit then some .noStation
    else if r.state == .quarantined then some .quarantined
    else none
  | .group g => if s.stations.any (fun r => r.inService && r.groups.getLsbD g) then none else some .noStation
  | .all => none

/-- A completion record is handed on: HOST origin raises TXN-DONE (R16); SCHEDULE origin goes to the Schedule Unit as a
separate event (R17, R139). -/
def handCompletion (c : Completion) (s : State) : State :=
  match c.origin with
  | .host => raise (.txnDone c) s
  | .schedule _ _ => { s with reports := s.reports ++ [c] }

/-! ### Host link queues (spec/10) -/

/-- A good frame reaches the intake queue, or is dropped and counted when the queue holds 4 (R170). -/
def placeFrame (f : Frame) (s : State) : State :=
  if s.link.intake.length < Config.intakeCapacity then { s with link := { s.link with intake := s.link.intake ++ [f] } }
  else { s with link := { s.link with
           counters := { s.link.counters with overflow := bump s.link.counters.overflow } } }

/-- A reply is placed at the tail of the reply queue (R172). -/
def placeReply (f : Frame) (s : State) : State := { s with link := { s.link with replies := s.link.replies ++ [f] } }

/-- The levels of the pins a command carries are taken over (log 4). -/
def withPins (p : Pins) (s : State) : State := { s with lrdyHeld := p.lrdyHeld, hbr1 := p.hbr1, hbr0 := p.hbr0 }

/-- The level of LRDY a command carries is taken over (log 4). -/
def withLrdy (held : Bool) (s : State) : State := { s with lrdyHeld := held }

/-- The pin levels that the command of a request kind takes over (log 4). -/
def requestLevels (k : RequestKind) (pins : Pins) (s : State) : State :=
  match k with
  | .resetPart => withPins pins s
  | .busSend => withLrdy pins.lrdyHeld s
  | .busCancel => withLrdy pins.lrdyHeld s
  | .busResume => withLrdy pins.lrdyHeld s
  | .refAnswer => withLrdy pins.lrdyHeld s
  | _ => s

end Sys2Proof.Machine
end

