-- ==== Sys2Proof/Machine/CompletionReports.lean ====
section
/-! DEFINITION. Completion records at the Schedule Unit (R17, R141). -/

namespace Sys2Proof.Machine

/-- A report policy calls for a TXN-DONE (R141). -/
def Report.wantsDone (p : Report) (o : TxnOutcome) : Bool :=
  match p with
  | .all => true
  | .misses => o != .done
  | .none => false

/-- A completion record reaches the Schedule Unit (R17, R141). -/
def takeReport (c : Completion) (s : State) : State :=
  match c.origin with
  | .host => s
  | .schedule i g =>
    let e := s.entryAt i
    if e.generation = g then
      let s1 := if e.liveTicket = some c.ticket then setEntry i { e with liveTicket := none } s else s
      if e.defn.report.wantsDone c.outcome then raise (.txnDone c) s1 else s1
    else s

/-- The oldest completion record on its way reaches the Schedule Unit (R17, R141). -/
def takeNextReport (s : State) : State :=
  match s.reports with
  | c :: rest => takeReport c { s with reports := rest }
  | [] => s

/-- Every completion record on its way reaches the Schedule Unit, the oldest first. -/
def takeReports (s : State) : State := s.reports.foldl (fun t c => takeReport c t) { s with reports := [] }

end Sys2Proof.Machine
end

