-- ==== Sys2Proof/Machine/PollUnit.lean ====
section
/-! DEFINITION. The Poll Unit (spec/06): building a cycle, turning to its members, its ends, what it does when the engine
stops, when a poll ends, when a station leaves service. -/

namespace Sys2Proof.Machine

/-- The rotation that begins one past the pointer: pointer + 1 to 30, then 1 to the pointer (R103). -/
def rotation (pointer : Nat) : List Nat :=
  List.range' (pointer + 1) (Config.stationCount - pointer) ++ List.range' 1 pointer

/-- A member of a cycle: UNKNOWN, PRESENT or SILENT, and pollable (R103). -/
def Station.member (r : Station) : Bool := r.inService && r.pollable

/-- The remaining list of a new cycle: members with service pending in rotation order, then the rest (R103). -/
def State.cycleList (s : State) : List Nat :=
  let members := (rotation s.poll.pointer).filter (fun n => (s.stationAt n).member)
  members.filter (fun n => (s.stationAt n).servicePending) ++ members.filter (fun n => !(s.stationAt n).servicePending)

/-- The unit enters CYCLING with a cycle built from the Station Table (R103). -/
def pollBuild (s : State) : State :=
  { s with poll := { s.poll with
      state := .cycling, holdoff := none, due := false
      cycle := some { remaining := s.cycleList, inFlight := none, request := .none, serviceSeen := false } } }

/-- The unit enters HOLDOFF and starts its timer for the poll holdoff in force (R108). -/
def pollHoldoff (s : State) : State :=
  { s with poll := { s.poll with
      state := .holdoff, cycle := none, due := false, holdoff := some s.engine.config.pollHoldoffMs } }

/-- The complete end of a cycle (R107): HOLDOFF after service; otherwise a phantom cycle, which at the phantom limit leads
to IGNORING with ATTENTION-STUCK. -/
def pollCompleteEnd (serviceSeen : Bool) (s : State) : State :=
  if serviceSeen then pollHoldoff { s with poll := { s.poll with phantomCount := 0 } }
  else
    let s1 := { s with
      poll := { s.poll with phantomCount := s.poll.phantomCount + 1 }
      engine := { s.engine with
        counters := { s.engine.counters with phantomCycles := bump s.engine.counters.phantomCycles } } }
    if s.engine.config.phantomLimit ≤ s1.poll.phantomCount then
      raise (.busState .attentionStuck)
        { s1 with poll := { s1.poll with state := .ignoring, cycle := none, due := false } }
    else pollHoldoff s1

/-- The unit turns to the head of the remaining list, reading LATN (R104). The request it presents waits for the engine's
next grant decision; an IDLE engine comes to that decision at POLL_REQUEST_PRESENTED (log 9). -/
def pollTurn (s : State) : State :=
  match s.poll.cycle with
  | none => s
  | some c =>
    if s.latnHeld then
      match c.remaining with
      | n :: rest =>
        { s with poll := { s.poll with
            cycle := some { c with remaining := rest, inFlight := some n, request := .presented }
            due := s.engine.state == .idle } }
      | [] => pollCompleteEnd c.serviceSeen s
    else { s with poll := { s.poll with state := .idle, cycle := none, phantomCount := 0, due := false } }

/-- The engine can run polls: it is neither PAUSED nor in FAULT (R102). -/
def LineEngine.running (e : LineEngine) : Bool := e.state != .paused && e.state != .fault

/-- The test of R102: an IDLE unit begins a cycle while LATN is held and the engine can run. -/
def pollTest (s : State) : State :=
  if s.poll.state = .idle ∧ s.latnHeld = true ∧ s.engine.running = true then pollTurn (pollBuild s) else s

/-- The engine tells the unit that it entered PAUSED or FAULT: a cycle in progress is abandoned (R110). -/
def pollEngineStopped (s : State) : State :=
  if s.poll.state = .cycling then { s with poll := { s.poll with state := .idle, cycle := none, due := false } } else s

/-- The table tells the unit that a station became UNDEFINED or QUARANTINED (R112). -/
def pollStationGone (n : Nat) (s : State) : State :=
  match s.poll.cycle with
  | none => s
  | some c =>
    if c.inFlight = some n ∧ c.request = .presented then
      pollTurn { s with poll := { s.poll with cycle := some { c with inFlight := none, request := .none }, due := false } }
    else { s with poll := { s.poll with cycle := some { c with remaining := c.remaining.filter (· != n) } } }

/-- Step 1 of R105: a last reply with the service flag set raises SERVICE and moves the rotating pointer (R106). -/
def pollService (n : Nat) (last : Option Reply) (s : State) : State :=
  match last with
  | some r =>
    if serviceFlag r.status then
      let s1 := raise (.service n r.status r.data) s
      { s1 with poll := { s1.poll with
          pointer := n, cycle := s1.poll.cycle.map (fun c => { c with serviceSeen := true }) } }
    else s
  | none => s

/-- The engine reports a poll's end (R105); a line fault abandons the cycle (R111). -/
def pollReport (n : Nat) (result : AttemptResult) (last : Option Reply) (s : State) : State :=
  let s1 := pollService n last s
  if result = .lineFault then pollEngineStopped s1
  else
    pollTurn { s1 with poll := { s1.poll with
        cycle := s1.poll.cycle.map (fun c => { c with inFlight := none, request := .none }) } }

/-- The station whose poll request is presented to the engine, as a grant decision sees it (R46, log 9). -/
def PollUnit.presented (p : PollUnit) : Option Nat :=
  match p.cycle with
  | some c => if c.request = .presented ∧ p.due = false then c.inFlight else none
  | none => none

end Sys2Proof.Machine
end

