-- ==== Sys2Proof/Machine/StationTable.lean ====
section
/-! DEFINITION. Station reports (spec/04 section 4.4): contact and failure; what a change of state tells the Notice Unit and
the Poll Unit. -/

namespace Sys2Proof.Machine

/-- The contact update of R73 with last contact by R81. -/
def Station.contact (r : Station) (reply : Reply) (now : Option Timestamp) : Station :=
  { r with
    failures := 0
    state := if r.state = .unknown ∨ r.state = .silent then .present else r.state
    lastStatus := some reply.status
    servicePending := serviceFlag reply.status
    lastContact := now }

/-- The state a station takes when its count reaches the threshold (R74). -/
def Policy.failState : Policy → StationState
  | .quarantine => .quarantined
  | .staySilent => .silent

/-- The failure update of R74 against the threshold in force: a count that already equals the threshold stays there and
changes nothing. -/
def Station.failure (r : Station) (threshold : Nat) : Station :=
  if r.failures < threshold then
    { r with
      failures := r.failures + 1
      state := if r.failures + 1 = threshold ∧ (r.state = .unknown ∨ r.state = .present) then r.policy.failState else r.state }
  else r

/-- Both updates of a report, in their order (R72). -/
def Station.reported (r : Station) (reply : Option Reply) (failed : Bool) (threshold : Nat) (now : Option Timestamp) : Station :=
  let r1 := match reply with
    | some y => r.contact y now
    | none => r
  if failed then r1.failure threshold else r1

/-- A change of state made by a request: STATION-STATE is raised (R76), and the Poll Unit is told of a change to UNDEFINED or
QUARANTINED (R79). DESIGN CHOICE (log 15): where that ends the cycle with ATTENTION-STUCK (R107, R112), its BUS-STATE comes
behind the STATION-STATE. -/
def stationChanged (n : Nat) (old new : StationState) (s : State) : State :=
  let s1 := raise (.stationState n old new) s
  if new = .undefined ∨ new = .quarantined then pollStationGone n s1 else s1

/-- A station report is taken whole (R72); a net change of state raises STATION-STATE (R76). What the Poll Unit does on a
change to QUARANTINED comes later in the end of work that makes the report, `endMember` (R53, R79). -/
def stationReport (n : Nat) (reply : Option Reply) (failed : Bool) (s : State) : State :=
  let old := s.stationAt n
  let new := old.reported reply failed s.engine.config.failureThreshold s.cal.stamp
  let s1 := setStation n new s
  if new.state = old.state then s1 else raise (.stationState n old.state new.state) s1

end Sys2Proof.Machine
end

