-- ==== Sys2Proof/Machine/LineEngine.lean ====
section
/-! DEFINITION. The Line Engine (spec/02, spec/03, spec/05): beginning an exchange, acting on an attempt result, the end of
work, referrals and verdicts, the grant. -/

namespace Sys2Proof.Machine

/-! ### Beginning an exchange -/

/-- An exchange begins with its LINE-CHECK (R21, R27): counted as started; SEND at once if LRDY is released, otherwise the
line-stuck timer runs. -/
def beginExchange (kind : ExchangeKind) (frame : LineFrame) (replyExpected : Bool) (s : State) : State :=
  { s with engine := { s.engine with
      counters := { s.engine.counters with exchanges := bump s.engine.counters.exchanges }
      exchange := some
        { kind := kind, frame := frame, replyExpected := replyExpected
          phase := if s.lrdyHeld then .lineCheck else .send
          bytesSent := 0, replySoFar := []
          lineStuck := if s.lrdyHeld then some s.engine.config.lineStuckMs else none
          ready := none, turnHold := none, replyWindow := none } } }

/-- The frame of every attempt of a transaction (R22, R49). -/
def TxnSpec.frame (t : TxnSpec) : LineFrame := LineFrame.build t.dest t.subUnit t.command t.args

/-- The destination expects a reply: kind STATION alone (Table 2-3). -/
def Destination.replies : Destination → Bool
  | .station _ => true
  | .group _ => false
  | .all => false

/-- The next attempt of the current transaction begins (R49); a second or later one counts as a retry (R51, R62). -/
def beginAttempt (t : Transaction) (s : State) : State :=
  let n := s.engine.attempts + 1
  beginExchange .attempt t.spec.frame t.spec.dest.replies
    { s with engine := { s.engine with
        attempts := n, wait := none
        counters := if 2 ≤ n then { s.engine.counters with retries := bump s.engine.counters.retries } else s.engine.counters } }

/-! ### The end of work (R53) -/

/-- The failure of an attempt result, if it is one of the three failures (R34). -/
def AttemptResult.failure? : AttemptResult → Option Failure
  | .failed f => some f
  | .reply _ => none
  | .sent => none
  | .lineFault => none

/-- The outcome a failure gives (Table 1-5). -/
def Failure.outcome : Failure → TxnOutcome
  | .noReady => .noReady
  | .noReply => .noReply
  | .checkError => .checkError

/-- The verdict frame a closure calls for (R54). -/
def Closure.verdict : Closure → Verdict
  | .answeredAccept => .confirm
  | .answeredReject => .deny
  | .cancelled => .deny
  | .timeout => .deny
  | .fault => .deny

/-- Step 1: the station report of work that used the line toward a station (R52). -/
def endReport (result : AttemptResult) (s : State) : State :=
  match s.engine.station with
  | some n => stationReport n s.engine.lastReply result.failure?.isSome s
  | none => s

/-- The final reply of a CONFIRM, if one was received (R95). -/
def finalReply (c : Closing) (result : AttemptResult) : Option Reply :=
  match c.closure, result with
  | .answeredAccept, .reply r => some r
  | _, _ => none

/-- The start of step 2: REF-CLOSED for the work of a referral (R95); a line fault makes the closure FAULT (R94). -/
def endReferral (outcome : TxnOutcome) (result : AttemptResult) (s : State) : State :=
  match s.engine.closing with
  | some c =>
    raise (.refClosed c.id (if result = .lineFault then .fault else c.closure) c.closure.verdict c.origin c.station c.subUnit
      outcome (finalReply c result)) s
  | none => s

/-- The completion record of the current transaction (R15). -/
def LineEngine.completion (e : LineEngine) (t : Transaction) (outcome : TxnOutcome) : Completion :=
  { ticket := t.ticket, origin := t.origin, outcome := outcome, reply := e.lastReply, attempts := e.attempts,
    admitted := t.admitted }

/-- The rest of step 2: the hand-over of the result (R53). -/
def endHandOver (outcome : TxnOutcome) (result : AttemptResult) (s : State) : State :=
  match s.engine.work with
  | some (.transaction t) => handCompletion (s.engine.completion t outcome) s
  | some (.poll n) => pollReport n result s.engine.lastReply s
  | none => s

/-- The current work is a transaction of SCHEDULE origin. -/
def LineEngine.ofSchedule (e : LineEngine) : Bool :=
  match e.work with
  | some (.transaction t) => !t.isHost
  | _ => false

/-- The Poll Unit acts on the change to QUARANTINED that the report of step 1 made, if it made one: the station leaves the
cycle (R79, R112). It acts behind the hand-over, so that an ATTENTION-STUCK comes behind REF-CLOSED and TXN-DONE (R53), and ahead
of step 4 with its grant decision (R79). DESIGN CHOICE (log 15): it then comes ahead of the BUS-STATE (PAUSED) of the same
end. -/
def endMember (before s : State) : State :=
  match before.engine.station with
  | some n =>
    if (before.stationAt n).state ≠ .quarantined ∧ (s.stationAt n).state = .quarantined then pollStationGone n s else s
  | none => s

/-- The end raises a BUS-STATE: it leads to PAUSED or FAULT, or the Poll Unit enters IGNORING at it (R53, R107). -/
def endTold (result : AttemptResult) (before s : State) : Bool :=
  result == .lineFault || s.engine.pausePending || (s.poll.state != .ignoring && (endMember before s).poll.state == .ignoring)

/-- Where the end of a SCHEDULE transaction raises a BUS-STATE, its completion record, and those on their way before it, reach
the Schedule Unit first, so that its TXN-DONE comes ahead of BUS-STATE (R53, R95; log 20). -/
def endReports (result : AttemptResult) (before s : State) : State :=
  if s.engine.ofSchedule ∧ endTold result before s = true then takeReports s else s

/-- Step 3: the work, its station, attempts, last reply and wait are cleared (R53). -/
def clearWork (s : State) : State :=
  { s with engine := { s.engine with
      work := none, station := none, attempts := 0, lastReply := none, wait := none, exchange := none, closing := none } }

/-- The engine enters PAUSED: BUS-STATE (PAUSED) is raised and the Poll Unit is told (R53, R55, R56). -/
def enterPaused (s : State) : State :=
  pollEngineStopped (raise (.busState .paused) { s with engine := { s.engine with state := .paused, pausePending := false } })

/-- The engine enters FAULT: BUS-STATE (FAULT) is raised and the Poll Unit is told (R58). -/
def enterFault (s : State) : State :=
  pollEngineStopped (raise (.busState .fault) { s with engine := { s.engine with state := .fault, pausePending := false } })

/-- Step 4: the state change (R53). -/
def endState (result : AttemptResult) (s : State) : State :=
  if result = .lineFault then enterFault s
  else if s.engine.pausePending then enterPaused s
  else { s with engine := { s.engine with state := .idle } }

/-- The end of the current work, without the grant decision that an IDLE engine then makes (R53). -/
def endWork (outcome : TxnOutcome) (result : AttemptResult) (s : State) : State :=
  let handed := endHandOver outcome result (endReferral outcome result (endReport result s))
  endState result (clearWork (endMember s (endReports result s handed)))

/-! ### The grant (R46, R47) -/

/-- The engine takes a transaction as its current work (R49). -/
def takeWork (t : Transaction) (q : DispatchQueue) (s : State) : State :=
  { s with
    queue := q
    engine := { s.engine with
      state := .active, lastGrant := .queue, work := some (.transaction t), attempts := 0, lastReply := none, wait := none } }

/-- A transaction that completes under the start-time checks: no station report, no exchange (R10, R49). -/
def completeAtTake (t : Transaction) (outcome : TxnOutcome) (s : State) : State :=
  let s1 := clearWork (handCompletion (s.engine.completion t outcome) s)
  if s1.engine.pausePending then enterPaused s1 else { s1 with engine := { s1.engine with state := .idle } }

/-- The station number of a destination of kind STATION. -/
def Destination.station? : Destination → Option Nat
  | .station n => some n
  | .group _ => none
  | .all => none

/-- The first attempt of a transaction that passed its start-time checks (R49). -/
def startWork (t : Transaction) (s : State) : State :=
  beginAttempt t { s with
    engine := { s.engine with station := t.spec.dest.station? }
    poll := { s.poll with due := false } }

/-- The frame of a POLL exchange (R37). -/
def pollFrame (n : Nat) : LineFrame := LineFrame.build (.station n) none Config.cmdPoll []

/-- A poll is granted: its request is GRANTED and its POLL exchange begins (R47, R48, R104). -/
def grantPoll (n : Nat) (s : State) : State :=
  beginExchange .poll (pollFrame n) true
    { s with
      engine := { s.engine with
        state := .active, lastGrant := .poll, work := some (.poll n), station := some n, attempts := 0, lastReply := none
        wait := none }
      poll := { s.poll with due := false, cycle := s.poll.cycle.map (fun c => { c with request := .granted }) } }

/-- The queue is granted: its head is taken and checked (R9, R10, R49); a take that finds the queue emptied removes nothing
and sets the last grant all the same (R9, R47). The flag says that the engine, back in IDLE, decides again. DESIGN CHOICE
(log 21): a decision and its take are one act, except where `takeDecided` makes the take. -/
def grantQueue (s : State) : State × Bool :=
  match s.queue.takeHead with
  | some (t, q) =>
    let s1 := takeWork t q s
    match startCheck t s1 with
    | some outcome => (completeAtTake t outcome s1, true)
    | none => (startWork t s1, false)
  | none => ({ s with engine := { s.engine with lastGrant := .queue } }, true)

/-- The poll that a grant decision chooses: the presented one, if the last grant is not POLL or the queue is empty (R47). -/
def State.pollChosen (s : State) : Option Nat :=
  match s.poll.presented with
  | some n => if s.engine.lastGrant ≠ .poll ∨ s.queue.count = 0 then some n else none
  | none => none

/-- A grant decision chooses the queue: no poll is chosen and the queue is not empty (R47). -/
def State.queueChosen (s : State) : Bool := s.pollChosen.isNone && s.queue.count != 0

/-- One grant decision of an IDLE engine (R46, R47): the chosen poll, else the head; without work waiting, none. -/
def grantOnce (s : State) : State × Bool :=
  if s.engine.state = .idle then
    match s.pollChosen with
    | some n => (grantPoll n s, false)
    | none => if s.queue.count = 0 then (s, false) else grantQueue s
  else (s, false)

/-- Grant decisions until no take completes at once; `fuel` bounds the takes. -/
def grantLoop : Nat → State → State
  | 0, s => s
  | fuel + 1, s => if (grantOnce s).2 then grantLoop fuel (grantOnce s).1 else (grantOnce s).1

/-- The engine comes to a grant decision (R46). -/
def decideGrant (s : State) : State := grantLoop (s.queue.count + 1) s

/-- The take that follows a decision for the queue, on the queue as it stands now (R9): the queue may have been emptied since,
and the engine then decides again (R47, log 21). -/
def takeDecided (s : State) : State :=
  if s.engine.state = .idle then
    let g := grantQueue s
    if g.2 then decideGrant g.1 else g.1
  else s

/-- The end of work followed by the next grant decision (R53). -/
def finishWork (outcome : TxnOutcome) (result : AttemptResult) (s : State) : State := decideGrant (endWork outcome result s)

/-! ### Referrals (spec/05) -/

/-- A referral opens on a QUERY reply (R85): the record is built, the hold timer starts, the engine enters HELD and the
REFERRAL notice is raised (R86). -/
def openReferral (x : Exchange) (r : Reply) (s : State) : State :=
  let origin := match s.engine.work with
    | some (.transaction t) => ReferralOrigin.ticket t.ticket
    | _ => ReferralOrigin.poll
  let station := (s.engine.station).getD 0
  let rec1 : Referral :=
    { id := s.engine.nextReferralId, station := station, subUnit := x.frame.subUnit, origin := origin
      questionStatus := r.status, questionData := r.data, opened := s.cal.stamp, holdTimer := s.engine.config.holdTimeoutS }
  raise (.referral rec1.id rec1.station rec1.subUnit rec1.origin s.engine.config.holdTimeoutS r.status r.data)
    { s with engine := { s.engine with
        state := .held, lastReply := some r, referral := some rec1
        nextReferralId := nextReferralId s.engine.nextReferralId } }

/-- The verdict exchange of a closure: CONFIRM with the answer bytes, or DENY (R39, R40, R54). -/
def beginVerdict (c : Closing) (s : State) : State :=
  match c.closure.verdict with
  | .confirm => beginExchange .confirm (LineFrame.build (.station c.station) c.subUnit Config.cmdConfirm c.answer) true s
  | .deny => beginExchange .deny (LineFrame.build (.station c.station) c.subUnit Config.cmdDeny []) false s

/-- A closing claim is taken (R88): the closure is noted, the record and its hold timer are discarded, the engine returns
to ACTIVE and the verdict exchange begins. -/
def closeReferral (r : Referral) (closure : Closure) (answer : List Byte) (s : State) : State :=
  let c : Closing :=
    { closure := closure, answer := answer, id := r.id, station := r.station, subUnit := r.subUnit, origin := r.origin }
  beginVerdict c { s with engine := { s.engine with state := .active, referral := none, closing := some c } }

/-! ### Attempt results (R34) -/

/-- The counters an attempt result raises (Table 3-7). -/
def countResult (kind : ExchangeKind) (result : AttemptResult) (c : LineCounters) : LineCounters :=
  match result with
  | .failed .noReady => { c with noReady := bump c.noReady }
  | .failed .noReply => { c with noReply := bump c.noReply }
  | .failed .checkError => { c with checkError := bump c.checkError }
  | .lineFault => { c with lineFaults := bump c.lineFaults }
  | .sent => c
  | .reply r =>
    if r.cls = .nack ∧ (kind = .attempt ∨ kind = .confirm) then { c with nacks := bump c.nacks }
    else if r.cls = .query ∧ kind = .confirm then { c with nestedQueries := bump c.nestedQueries }
    else c

/-- The last reply becomes the reply just received (R50). -/
def noteReply (r : Reply) (s : State) : State := { s with engine := { s.engine with lastReply := some r } }

/-- The engine waits in ACTIVE until the next attempt (R51). -/
def beginWait (w : Wait) (s : State) : State := { s with engine := { s.engine with wait := some w } }

/-- Retries remain: attempts begun is not greater than the retry limit (R50). -/
def retriesRemain (t : Transaction) (s : State) : Bool := s.engine.attempts ≤ t.spec.retryLimit

/-- The engine's action on the result of an attempt (Table 3-4). -/
def attemptEnd (t : Transaction) (x : Exchange) (result : AttemptResult) (s : State) : State :=
  match result with
  | .reply r =>
    let s1 := noteReply r s
    match r.cls with
    | .normal => finishWork .done result s1
    | .nack => finishWork .nack result s1
    | .busy =>
      if retriesRemain t s then beginWait (.busyBackoff s.engine.config.busyBackoffMs) s1
      else finishWork .stationBusy result s1
    | .query => openReferral x r s1
  | .sent => finishWork .done result s
  | .failed f => if retriesRemain t s then beginWait (.lineRest Config.lineRestMs) s else finishWork f.outcome result s
  | .lineFault => finishWork .noReady result s

/-- The engine's action on the result of a POLL (R48). A poll has no outcome; the one given is not reported. -/
def pollEnd (x : Exchange) (result : AttemptResult) (s : State) : State :=
  match result with
  | .reply r => if r.cls = .query then openReferral x r (noteReply r s) else finishWork .done result (noteReply r s)
  | .sent => finishWork .done result s
  | .failed f => finishWork f.outcome result s
  | .lineFault => finishWork .noReady result s

/-- The outcome of a CONFIRM's final reply (Table 2-8). -/
def ReplyClass.confirmOutcome : ReplyClass → TxnOutcome
  | .normal => .done
  | .nack => .nack
  | .query => .nack
  | .busy => .stationBusy

/-- The outcome set by the closure that called for a DENY (R40). -/
def Closure.denyOutcome : Closure → TxnOutcome
  | .answeredReject => .rejected
  | .cancelled => .cancelled
  | .timeout => .holdTimeout
  | .answeredAccept => .noReady
  | .fault => .noReady

/-- The outcome of a verdict exchange (R54, R94). -/
def verdictOutcome (c : Closing) (result : AttemptResult) : TxnOutcome :=
  match result with
  | .lineFault => if c.closure = .cancelled then .cancelled else .noReady
  | .reply r => if c.closure = .answeredAccept then r.cls.confirmOutcome else c.closure.denyOutcome
  | .failed f => if c.closure = .answeredAccept then f.outcome else c.closure.denyOutcome
  | .sent => c.closure.denyOutcome

/-- The engine's action on the result of a verdict exchange (R54). -/
def verdictEnd (result : AttemptResult) (s : State) : State :=
  let outcome := match s.engine.closing with
    | some c => verdictOutcome c result
    | none => .noReady
  match result with
  | .reply r => finishWork outcome result (noteReply r s)
  | .sent => finishWork outcome result s
  | .failed _ => finishWork outcome result s
  | .lineFault => finishWork outcome result s

/-- An exchange ends with its attempt result: the context is discarded, the counters rise, the engine acts (R34). -/
def endExchange (x : Exchange) (result : AttemptResult) (s : State) : State :=
  let s1 := { s with engine := { s.engine with exchange := none, counters := countResult x.kind result s.engine.counters } }
  match x.kind with
  | .attempt =>
    match s1.engine.work with
    | some (.transaction t) => attemptEnd t x result s1
    | _ => s1
  | .poll => pollEnd x result s1
  | .confirm => verdictEnd result s1
  | .deny => verdictEnd result s1

end Sys2Proof.Machine
end

