-- ==== Sys2Proof/Machine/ScheduleUnit.lean ====
section
/-! DEFINITION. The Schedule Unit (spec/08): matching, and the firing of one entry. -/

namespace Sys2Proof.Machine

/-- A field set to ANY always agrees (R134). -/
def agrees (field : Option Nat) (value : Nat) : Bool :=
  match field with
  | none => true
  | some f => f == value

/-- The match day is ANY, or the remainder of the day by the cycle length equals the phase (R134). -/
def dayAgrees (field : Option DayPattern) (day : Nat) : Bool :=
  match field with
  | none => true
  | some p => day % p.length == p.phase

/-- The entry matches a second boundary (R134). -/
def EntryDef.isMatch (d : EntryDef) (e : SecondBoundary) : Bool :=
  d.second == e.second && agrees d.minute e.minute && agrees d.hour e.hour && dayAgrees d.day e.day

/-- The entry fires at this event: it is ARMED and matches (R132, R135). -/
def Entry.fires (e : Entry) (ev : SecondBoundary) : Bool := e.state == .armed && e.defn.isMatch ev

/-- The firing makes no claim: overlap SKIP with a live ticket (R137 step 1). -/
def Entry.skips (e : Entry) : Bool := e.defn.overlap == .skip && e.liveTicket.isSome

/-- A ONCE entry becomes SPENT as the last part of its firing (R138). -/
def Entry.spend (e : Entry) : Entry := if e.defn.repeats then e else { e with state := .spent }

/-- A firing that counts: fire count and last fired (R136, R137, R140). -/
def Entry.fired (e : Entry) (now : Option Timestamp) : Entry := { e with fireCount := bump e.fireCount, lastFired := now }

/-- A firing that was skipped or dropped (R137). -/
def Entry.missed (e : Entry) : Entry := { e with missCount := sat 255 e.missCount }

/-- SCH-FIRED for entry i (R139). -/
def firedNotice (i : Nat) (e : Entry) (r : FireResult) (ev : SecondBoundary) : NoticeBody := .schFired i e.generation r ev

/-- Entry i fires (R136, R137, R138). -/
def fireEntry (ev : SecondBoundary) (i : Nat) (s : State) : State :=
  let e := s.entryAt i
  match e.defn.action with
  | .notify note =>
    raise (firedNotice i e (.notified note) ev) (setEntry i (e.fired s.cal.stamp).spend s)
  | .transact spec =>
    if e.skips then
      let s1 := setEntry i e.missed.spend s
      if e.defn.report = .none then s1 else raise (firedNotice i e .skipped ev) s1
    else if s.queue.count < Config.queueCapacity then
      let t := s.ticketToGive
      let s1 := setEntry i (({ e with liveTicket := some t } : Entry).fired s.cal.stamp).spend
        (admission (.schedule i e.generation) spec s)
      if e.defn.report = .all then raise (firedNotice i e (.queued t) ev) s1 else s1
    else
      let s1 := setEntry i e.missed.spend s
      if e.defn.report = .none then s1 else raise (firedNotice i e .droppedFull ev) s1

end Sys2Proof.Machine
end

