-- ==== Sys2Proof/Machine/Starts.lean ====
section
/-! DEFINITION. The five kinds of start (spec/00 section 5): what each block holds after each, and the START notice. -/

namespace Sys2Proof.Machine

/-- The start clears the main side to its initial values: COLD, WARM and CLEAR (R64, R82, R164). PIN and SOFT keep
configuration, definitions and counters (R65, R83, R165). -/
def StartKind.clears : StartKind → Bool
  | .cold => true
  | .warm => true
  | .clear => true
  | .pin => false
  | .soft => false

/-- The Line Engine after a start (R64, R65, R100). -/
def LineEngine.started (k : StartKind) (e : LineEngine) : LineEngine :=
  if k.clears then LineEngine.initial else { LineEngine.initial with config := e.config, counters := e.counters }

/-- A station record after a start (R82, R83). -/
def Station.started (k : StartKind) (r : Station) : Station :=
  if k.clears ∨ r.state = .undefined then Station.cleared
  else { r with state := .unknown, failures := 0, lastStatus := none, servicePending := false, lastContact := none }

/-- An entry after a start (R150, R151). -/
def Entry.started (k : StartKind) (e : Entry) : Entry :=
  match k with
  | .cold => Entry.cleared 0
  | .warm => Entry.cleared 0
  | .clear => Entry.cleared (wrap256 e.generation)
  | .pin => { e with liveTicket := none }
  | .soft => { e with liveTicket := none }

/-- The Notice Unit after a start, before its START notice (R164, R165). -/
def NoticeUnit.started (k : StartKind) (u : NoticeUnit) : NoticeUnit :=
  if k.clears then NoticeUnit.initial k else { NoticeUnit.initial k with mode := u.mode, attnEnable := u.attnEnable }

/-- The Host Link Unit after a start (Table 10-6). -/
def HostLink.started (k : StartKind) (rate : HostRate) (l : HostLink) : HostLink :=
  match k with
  | .cold => HostLink.initial rate
  | .warm => HostLink.initial rate
  | .pin => { HostLink.initial rate with counters := l.counters }
  | .soft => { HostLink.initial rate with counters := l.counters, sending := l.sending }
  | .clear => { HostLink.initial rate with sending := l.sending }

/-- The calendar record after a start (R129, R130). -/
def Calendar.started (k : StartKind) (c : Calendar) : Calendar :=
  match k with
  | .cold => Calendar.cold
  | .warm => c
  | .pin => c
  | .soft => c
  | .clear => c

/-- Every block at the values its chapter gives for the start kind. Completion records on their way are discarded; second
boundaries on their way stay at PIN, SOFT and CLEAR, as R130 gives (log 10). -/
def startBlocks (k : StartKind) (s : State) : State :=
  { s with
    link := s.link.started k (strapRate s.hbr1 s.hbr0)
    notices := s.notices.started k
    cal := s.cal.started k
    boundaries := if k = .cold ∨ k = .warm then [] else s.boundaries
    schedule := s.schedule.map (Entry.started k)
    reports := []
    queue := DispatchQueue.initial
    engine := s.engine.started k
    stations := s.stations.map (Station.started k)
    poll := PollUnit.initial }

/-- A start (R163): the blocks take their values, START is appended, and a Poll Unit that finds LATN held begins a cycle
(R102, R114). -/
def start (k : StartKind) (s : State) : State :=
  let s1 := startBlocks k s
  pollTest (raise (.start k s1.cal.running s1.cal.timeValid s1.cal.oscStable) s1)

/-- The main side while VDD is absent: everything outside the backup domain is lost (R128). The values stand for nothing
that can be read; they are those of a WARM start without its START notice (log 11). -/
def mainLost (s : State) : State :=
  { startBlocks .warm s with cal := s.cal, notices := NoticeUnit.initial s.notices.lastStart }

end Sys2Proof.Machine
end

