-- ==== Sys2Proof/Machine/Requests.lean ====
section
/-! DEFINITION. What each of the thirty requests does at the block that owns the state it reaches, and its answer: the
status, the bytes after the status, the state after. A body reaches these functions only with a length that fits its kind
(R173 step 2); the last arm of each is that misfit again. -/

namespace Sys2Proof.Machine

/-- The answer to a request: status, the reply bytes after the status, and the part afterwards (R173). -/
structure Answer where
  status : ReplyStatus
  data : List Byte
  state : State
  deriving DecidableEq, Repr

/-- A refusal: the status alone, and no state changes (R174). -/
def refuse (st : ReplyStatus) (s : State) : Answer := { status := st, data := [], state := s }

/-- The status OK with the bytes after it. -/
def accept (data : List Byte) (s : State) : Answer := { status := .ok, data := data, state := s }

/-! ### Information (spec/10) -/

/-- GET-INFO (R177). -/
def answerGetInfo : List Byte → State → Answer
  | [], s => accept (infoBytes s.link.rate) s
  | _, s => refuse .badLength s

/-- GET-STATUS (R178). -/
def answerGetStatus : List Byte → State → Answer
  | [], s => accept s.statusBytes s
  | _, s => refuse .badLength s

/-- Every link counter and every line counter is set to 0 (R63, R179). -/
def clearCounters (s : State) : State :=
  { s with
    link := { s.link with counters := LinkCounters.zero }
    engine := { s.engine with counters := LineCounters.zero } }

/-- GET-STATS (R179, R63). -/
def answerGetStats : List Byte → State → Answer
  | [flag], s =>
    match boolOfByte flag with
    | some clear => accept (statsBytes s.link.counters s.engine.counters) (if clear then clearCounters s else s)
    | none => refuse .badArg s
  | _, s => refuse .badLength s

/-- RESET-PART (R180): the start, and the answer OK with the scope. The reply is placed in the queue the start emptied. -/
def answerResetPart : List Byte → State → Answer
  | [scope], s =>
    match scopeOfByte scope with
    | some k => accept [scope] (start k s)
    | none => refuse .badArg s
  | _, s => refuse .badLength s

/-! ### Calendar (spec/07) -/

/-- CAL-READ (R122). -/
def answerCalRead : List Byte → State → Answer
  | [], s => accept s.cal.readBytes s
  | _, s => refuse .badLength s

/-- CAL-SET (R123). -/
def answerCalSet : List Byte → State → Answer
  | [dayHi, dayLo, hour, minute, second], s =>
    if 23 < hour.toNat ∨ 59 < minute.toNat ∨ 59 < second.toNat then refuse .badArg s
    else if s.cal.running then refuse .state s
    else
      accept [] { s with cal := { s.cal with
        day := word16 dayHi dayLo, hour := hour.toNat, minute := minute.toNat, second := second.toNat, fraction := 0
        timeValid := true } }
  | _, s => refuse .badLength s

/-- CAL-RUN (R125). -/
def answerCalRun : List Byte → State → Answer
  | [], s =>
    if s.cal.running then accept [] s
    else if s.cal.oscStable then accept [] { s with cal := { s.cal with running := true, divider := 0 } }
    else refuse .notReady s
  | _, s => refuse .badLength s

/-- CAL-STOP (R126). -/
def answerCalStop : List Byte → State → Answer
  | [], s => accept [] (if s.cal.running then { s with cal := { s.cal with running := false, divider := 0 } } else s)
  | _, s => refuse .badLength s

/-- CAL-CLEAR (R124). -/
def answerCalClear : List Byte → State → Answer
  | [], s =>
    if s.cal.running then refuse .state s
    else
      accept [] { s with cal := { s.cal with day := 0, hour := 0, minute := 0, second := 0, fraction := 0, timeValid := false } }
  | _, s => refuse .badLength s

/-! ### Schedule table (spec/08) -/

/-- Step 5 of Table 8-5: a TRANSACT action to a defined station whose sub-unit does not fit it. -/
def Action.misfits (s : State) : Action → Bool
  | .notify _ => false
  | .transact t =>
    match t.dest with
    | .station n => (s.stationAt n).defined && !(s.stationAt n).fits t.subUnit
    | .group _ => false
    | .all => false

/-- The entry an SCH-WRITE leaves (R143). -/
def Entry.written (initial : EntryState) (d : EntryDef) (e : Entry) : Entry :=
  { state := initial, generation := wrap256 e.generation, defn := d, fireCount := 0, missCount := 0, lastFired := none,
    liveTicket := none }

/-- SCH-WRITE (R142, R143). -/
def answerSchWrite : List Byte → State → Answer
  | index :: initial :: rest, s =>
    match inRange 0 39 index, initialOfByte initial, entryDefOf rest with
    | some i, some st, some d =>
      if d.action.misfits s then refuse .badArg s
      else
        let e := (s.entryAt i).written st d
        accept [byte e.generation] (setEntry i e s)
    | _, _, _ => refuse .badArg s
  | _, s => refuse .badLength s

/-- SCH-READ (R144). -/
def answerSchRead : List Byte → State → Answer
  | [index], s =>
    match inRange 0 39 index with
    | some i => accept (s.entryAt i).readBytes s
    | none => refuse .badArg s
  | _, s => refuse .badLength s

/-- SCH-ENABLE (R145). -/
def answerSchEnable : List Byte → State → Answer
  | [index], s =>
    match inRange 0 39 index with
    | some i =>
      match (s.entryAt i).state with
      | .disabled => accept [] (setEntry i { s.entryAt i with state := .armed } s)
      | .spent => accept [] (setEntry i { s.entryAt i with state := .armed } s)
      | .armed => accept [] s
      | .empty => refuse .notFound s
    | none => refuse .badArg s
  | _, s => refuse .badLength s

/-- SCH-DISABLE (R146). -/
def answerSchDisable : List Byte → State → Answer
  | [index], s =>
    match inRange 0 39 index with
    | some i =>
      match (s.entryAt i).state with
      | .armed => accept [] (setEntry i { s.entryAt i with state := .disabled } s)
      | .spent => accept [] (setEntry i { s.entryAt i with state := .disabled } s)
      | .disabled => accept [] s
      | .empty => refuse .notFound s
    | none => refuse .badArg s
  | _, s => refuse .badLength s

/-- SCH-DELETE (R147). -/
def answerSchDelete : List Byte → State → Answer
  | [index], s =>
    match inRange 0 39 index with
    | some i =>
      if (s.entryAt i).state = .empty then refuse .notFound s
      else
        let g := wrap256 (s.entryAt i).generation
        accept [byte g] (setEntry i (Entry.cleared g) s)
    | none => refuse .badArg s
  | _, s => refuse .badLength s

/-- SCH-LIST (R148). -/
def answerSchList : List Byte → State → Answer
  | [], s => accept (listBytes s.schedule) s
  | _, s => refuse .badLength s

/-! ### Station Table (spec/04) -/

/-- The record an STN-DEFINE leaves (R68). -/
def Station.define (subUnits : Nat) (groups : BitVec 8) (pollable : Bool) (policy : Policy) : Station :=
  { state := .unknown, subUnits := subUnits, groups := groups, pollable := pollable, policy := policy, failures := 0,
    lastStatus := none, servicePending := false, lastContact := none }

/-- STN-DEFINE (R68). -/
def answerStnDefine : List Byte → State → Answer
  | [station, subUnits, groups, pollable, policy], s =>
    match inRange 1 30 station, inRange 0 15 subUnits, boolOfByte pollable, Policy.ofCode policy with
    | some n, some su, some p, some q =>
      if (s.stationAt n).state = .undefined then
        accept [] (stationChanged n .undefined .unknown (setStation n (Station.define su groups p q) s))
      else refuse .state s
    | _, _, _, _ => refuse .badArg s
  | _, s => refuse .badLength s

/-- STN-READ (R69). -/
def answerStnRead : List Byte → State → Answer
  | [station], s =>
    match inRange 1 30 station with
    | some n => accept ((s.stationAt n).readBytes n) s
    | none => refuse .badArg s
  | _, s => refuse .badLength s

/-- STN-FORGET (R70). -/
def answerStnForget : List Byte → State → Answer
  | [station], s =>
    match inRange 1 30 station with
    | some n =>
      if (s.stationAt n).state = .undefined then refuse .notFound s
      else if s.engine.station = some n then refuse .busy s
      else accept [] (stationChanged n (s.stationAt n).state .undefined (setStation n Station.cleared s))
    | none => refuse .badArg s
  | _, s => refuse .badLength s

/-- STN-RESTORE (R71). -/
def answerStnRestore : List Byte → State → Answer
  | [station], s =>
    match inRange 1 30 station with
    | some n =>
      if (s.stationAt n).state = .quarantined then
        accept [] (stationChanged n .quarantined .unknown
          (setStation n { s.stationAt n with state := .unknown, failures := 0 } s))
      else refuse .state s
    | none => refuse .badArg s
  | _, s => refuse .badLength s

/-! ### Dispatch Queue and Line Engine (spec/01, spec/03, spec/05) -/

/-- Steps 4 and 5 of Table 1-3, for kind STATION. -/
def stationRefusal (t : TxnSpec) (s : State) : Option ReplyStatus :=
  match t.dest with
  | .station n =>
    if (s.stationAt n).state = .undefined then some .notFound
    else if (s.stationAt n).fits t.subUnit then none
    else some .badArg
  | .group _ => none
  | .all => none

/-- The queue refuses a HOST transaction: 24 queued, or 20 of HOST origin (R5). -/
def DispatchQueue.refusesHost (q : DispatchQueue) : Bool :=
  Config.queueCapacity ≤ q.count || Config.hostQuota ≤ q.hostCount

/-- BUS-SEND (R6, R7): the position is that immediately after admission, before any take the admission brings (R46). -/
def answerBusSend (body : List Byte) (s : State) : Answer :=
  match txnSpecOf body with
  | none => refuse .badArg s
  | some t =>
    match stationRefusal t s with
    | some st => refuse st s
    | none =>
      if s.queue.refusesHost then refuse .full s
      else
        let s1 := admission .host t s
        accept (bytes16 s.ticketToGive ++ [byte (s1.queue.lastPosition t.cls)]) (decideGrant s1)

/-- The completion of a transaction cancelled in the queue (R12). -/
def cancelledRecord (t : Transaction) : Completion :=
  { ticket := t.ticket, origin := t.origin, outcome := .cancelled, reply := none, attempts := 0, admitted := t.admitted }

/-- BUS-CANCEL (R12, R13, R14, R93). -/
def answerBusCancel : List Byte → State → Answer
  | [hi, lo], s =>
    let ticket := word16 hi lo
    if ticket = 0 then refuse .badArg s
    else
      match s.queue.find ticket with
      | some t => accept [] (handCompletion (cancelledRecord t) { s with queue := s.queue.remove ticket })
      | none =>
        if s.engine.ticket = some ticket then
          match s.engine.referral with
          | some r => accept [] (closeReferral r .cancelled [] s)
          | none => refuse .busy s
        else refuse .notFound s
  | _, s => refuse .badLength s

/-- Pause pending takes a value (R55, R57). -/
def setPause (b : Bool) (s : State) : State := { s with engine := { s.engine with pausePending := b } }

/-- BUS-PAUSE (R55). -/
def answerBusPause : List Byte → State → Answer
  | [], s =>
    match s.engine.state with
    | .idle => accept [] (enterPaused s)
    | .active => accept [] (setPause true s)
    | .held => accept [] (setPause true s)
    | .paused => accept [] s
    | .fault => refuse .state s
  | _, s => refuse .badLength s

/-- The engine's decision at a resume is taken first (R186): the request presented after it is granted at the next grant,
which comes in the same step where the head taken completed at its take (R10). -/
def decideThenPresent (s : State) : State :=
  let g := grantOnce s
  let s1 := pollTest g.1
  if g.2 then decideGrant { s1 with poll := { s1.poll with due := false } } else s1

/-- The engine returns from PAUSED or FAULT to IDLE: its grant decision and the Poll Unit's presentation meet, in either
order (R186). Where the Poll Unit has nothing to begin, the order plays no part; otherwise it is free (log 7). -/
def resumeIdle (s : State) : State :=
  let s1 := { s with engine := { s.engine with state := .idle } }
  if s1.poll.state = .idle ∧ s1.latnHeld = true then
    let s2 := { s1 with choices := s1.choices + 1 }
    if Config.resumePresentsFirst s1.choices then
      let s3 := pollTest s2
      decideGrant { s3 with poll := { s3.poll with due := false } }
    else decideThenPresent s2
  else decideGrant s1

/-- BUS-RESUME (R57, R59). DESIGN CHOICE (log 15): out of FAULT, RESUMED is raised before the Poll Unit is told of the return
(R102), and so comes ahead of an ATTENTION-STUCK that an empty cycle brings (R107). -/
def answerBusResume : List Byte → State → Answer
  | [], s =>
    match s.engine.state with
    | .idle => accept [] s
    | .active => accept [] (setPause false s)
    | .held => accept [] (setPause false s)
    | .paused => accept [] (resumeIdle s)
    | .fault => if s.lrdyHeld then refuse .state s else accept [] (resumeIdle (raise (.busState .resumed) s))
  | _, s => refuse .badLength s

/-- LINE-CONFIG (R61, R80). -/
def answerLineConfig (body : List Byte) (s : State) : Answer :=
  if s.engine.running then refuse .state s
  else
    match lineConfigOf body with
    | some c =>
      accept [] { s with
        engine := { s.engine with config := c }
        stations := s.stations.map (fun r => { r with failures := 0 }) }
    | none => refuse .badArg s

/-- CONFIG-READ (R60). -/
def answerConfigRead : List Byte → State → Answer
  | [], s => accept s.engine.config.bytes s
  | _, s => refuse .badLength s

/-- REF-ANSWER (R89, R90, R91): the answer bytes of a REJECT are discarded. -/
def answerRefAnswer : List Byte → State → Answer
  | id :: verdict :: count :: answer, s =>
    match acceptOfByte verdict with
    | some yes =>
      if id = 0#8 ∨ 8 < count.toNat then refuse .badArg s
      else
        match s.engine.referral with
        | some r =>
          if r.id = id.toNat then
            accept [] (if yes then closeReferral r .answeredAccept answer s else closeReferral r .answeredReject [] s)
          else refuse .stale s
        | none => refuse .stale s
    | none => refuse .badArg s
  | _, s => refuse .badLength s

/-! ### Notices (spec/09) -/

/-- The held notices through the one at place i leave (R159). -/
def removeThrough (i : Nat) (s : State) : State :=
  { s with notices := { s.notices with queue := s.notices.queue.drop (i + 1) } }

/-- NOTICE-LOST, when a slot is free and the lost count is greater than 0 (R155). -/
def reportLost (s : State) : State :=
  if 0 < s.notices.lostCount ∧ s.notices.queue.length < Config.noticeCapacity then
    raise (.noticeLost s.notices.lostCount) { s with notices := { s.notices with lostCount := 0 } }
  else s

/-- NOTE-ACK (R159, R155). -/
def answerNoteAck : List Byte → State → Answer
  | [number], s =>
    match s.notices.queue.findIdx? (fun n => n.seq == number.toNat) with
    | some i => accept [byte (i + 1)] (reportLost (removeThrough i s))
    | none => refuse .notFound s
  | _, s => refuse .badLength s

/-- The number of held notices not transmitted (R158). -/
def NoticeUnit.untransmitted (u : NoticeUnit) : Nat := u.queue.countP (fun n => !n.transmitted)

/-- NOTE-FETCH (R158). -/
def answerNoteFetch : List Byte → State → Answer
  | [count], s =>
    match inRange 1 16 count with
    | some n =>
      if s.notices.mode = .push then refuse .state s
      else accept [byte s.notices.untransmitted] { s with notices := { s.notices with credit := n } }
    | none => refuse .badArg s
  | _, s => refuse .badLength s

/-- NOTE-REPLAY (R160). -/
def answerNoteReplay : List Byte → State → Answer
  | [], s =>
    accept [byte s.notices.queue.length]
      { s with notices := { s.notices with queue := s.notices.queue.map (fun n => { n with transmitted := false }) } }
  | _, s => refuse .badLength s

/-- NOTE-CONFIG (R161). -/
def answerNoteConfig : List Byte → State → Answer
  | [mode, enable], s =>
    match DeliveryMode.ofCode mode, boolOfByte enable with
    | some m, some e =>
      accept [] { s with notices := { s.notices with
        mode := m, attnEnable := e, credit := if m = s.notices.mode then s.notices.credit else 0 } }
    | _, _ => refuse .badArg s
  | _, s => refuse .badLength s

end Sys2Proof.Machine
end

