-- ==== Sys2Proof/Machine/HostLink.lean ====
section
/-! DEFINITION. The Host Link Unit and the Request Interpreter (spec/10): the receiver, the interpreter's take, the
transmitter's decision, and what both do at the end of every change of the main side. -/

namespace Sys2Proof.Machine

/-! ### The Request Interpreter (R172, R173) -/

/-- The owning block's answer to a request whose kind and length fit (R173 step 3). -/
def answerOwner (k : RequestKind) (body : List Byte) (s : State) : Answer :=
  match k with
  | .getInfo => answerGetInfo body s
  | .getStatus => answerGetStatus body s
  | .getStats => answerGetStats body s
  | .resetPart => answerResetPart body s
  | .calRead => answerCalRead body s
  | .calSet => answerCalSet body s
  | .calRun => answerCalRun body s
  | .calStop => answerCalStop body s
  | .calClear => answerCalClear body s
  | .schWrite => answerSchWrite body s
  | .schRead => answerSchRead body s
  | .schEnable => answerSchEnable body s
  | .schDisable => answerSchDisable body s
  | .schDelete => answerSchDelete body s
  | .schList => answerSchList body s
  | .stnDefine => answerStnDefine body s
  | .stnRead => answerStnRead body s
  | .stnForget => answerStnForget body s
  | .stnRestore => answerStnRestore body s
  | .busSend => answerBusSend body s
  | .busCancel => answerBusCancel body s
  | .busPause => answerBusPause body s
  | .busResume => answerBusResume body s
  | .lineConfig => answerLineConfig body s
  | .configRead => answerConfigRead body s
  | .refAnswer => answerRefAnswer body s
  | .noteAck => answerNoteAck body s
  | .noteFetch => answerNoteFetch body s
  | .noteReplay => answerNoteReplay body s
  | .noteConfig => answerNoteConfig body s

/-- The answer to a request of a known kind: BAD-LENGTH where the body does not fit (R173 steps 2 and 3). -/
def answerRequest (k : RequestKind) (body : List Byte) (s : State) : Answer :=
  if bodyFits k body then answerOwner k body s else refuse .badLength s

/-- The reply frame of an answer: the kind plus 80h, the request's tag, the status and what follows it (R167). -/
def Answer.reply (kind tag : Byte) (a : Answer) : Frame :=
  { kind := kind + 0x80#8, tag := tag, body := a.status.code :: a.data }

/-- The reply to an unknown kind: FEh, the status and the unknown kind byte (R173 step 1). -/
def unknownReply (kind tag : Byte) : Frame :=
  { kind := 0xFE#8, tag := tag, body := [ReplyStatus.unknownKind.code, kind] }

/-- A request frame is executed whole and its reply placed (R172, R173). -/
def serveFrame (f : Frame) (s : State) : State :=
  match RequestKind.ofCode f.kind with
  | some k =>
    let a := answerRequest k f.body s
    placeReply (a.reply f.kind f.tag) a.state
  | none => placeReply (unknownReply f.kind f.tag) s

/-- The interpreter takes the oldest intake frame while the reply queue holds fewer than 4 replies (R172); `fuel` bounds
the takes. -/
def interpret : Nat → State → State
  | 0, s => s
  | fuel + 1, s =>
    match s.link.intake with
    | f :: rest =>
      if s.link.replies.length < Config.replyCapacity then
        interpret fuel (serveFrame f { s with link := { s.link with intake := rest } })
      else s
    | [] => s

/-! ### The transmitter (R175, R176, R156) -/

/-- The eligible notice (R156, R157). -/
def NoticeUnit.eligible (u : NoticeUnit) : Option Notice :=
  if u.mode = .push ∨ 0 < u.credit then u.queue.find? (fun n => !n.transmitted) else none

/-- The oldest untransmitted notice is marked transmitted. -/
def markOldest : List Notice → List Notice
  | [] => []
  | n :: rest => if n.transmitted then n :: markOldest rest else { n with transmitted := true } :: rest

/-- The transmitter takes the eligible notice: it is marked, and in PULL the fetch credit falls by 1 (R156). -/
def NoticeUnit.taken (u : NoticeUnit) : NoticeUnit :=
  { u with queue := markOldest u.queue, credit := if u.mode = .push then u.credit else u.credit - 1 }

/-- The transmitter is idle and may begin a frame: HRDY is read here (R175, R176). -/
def State.mayTransmit (s : State) : Bool := s.hrdy && s.link.sending.isNone

/-- The transmitter's decision: the oldest reply, else the eligible notice, else nothing (R175). -/
def transmit (s : State) : State :=
  if s.mayTransmit then
    match s.link.replies with
    | f :: rest => { s with link := { s.link with replies := rest, sending := some { frame := f, rate := s.link.rate } } }
    | [] =>
      match s.notices.eligible with
      | some n =>
        { s with
          link := { s.link with sending := some { frame := n.frame, rate := s.link.rate } }
          notices := s.notices.taken }
      | none => s
  else s

/-- The tests the interpreter and the transmitter come to at the end of a change (R172, R175): a reply is placed before
the transmitter decides, so a reply goes ahead of a notice that arose in the same change, and a reply taken frees a slot. -/
def serveLink (s : State) : State :=
  if s.linkOn then
    let s1 := transmit (interpret s.link.intake.length s)
    interpret s1.link.intake.length s1
  else s

/-- An event of the main side: with VDD absent it changes nothing (R128), otherwise the link is served after it. -/
def mainEvent (act : State → State) (s : State) : State := if s.vdd then serveLink (act s) else s

/-- A good frame is completed by the receiver (R170), which takes nothing while RSTn is asserted (R181). -/
def goodFrame (f : Frame) (s : State) : State := if s.linkOn then serveLink (placeFrame f s) else s

/-- A good request frame of a known kind. -/
def hostRequest (k : RequestKind) (tag : Byte) (body : List Byte) (s : State) : State :=
  goodFrame { kind := k.code, tag := tag, body := body } s

/-! ### The receiver (R168 to R170) -/

/-- The receiver returns to HUNT: no assembly, no gap timer. -/
def HostLink.hunt (l : HostLink) : HostLink := { l with framer := .hunt, expected := 0, assembly := [], gapTimer := none }

/-- A link event is counted. -/
def countLink (f : LinkCounters → LinkCounters) (s : State) : State :=
  { s with link := { s.link with counters := f s.link.counters } }

/-- The receiver returns to HUNT. -/
def toHunt (s : State) : State := { s with link := s.link.hunt }

/-- The length byte, the payload and the check byte sum to 0 modulo 256 (R167, R170). -/
def checkAgrees (length : Nat) (payload : List Byte) (check : Byte) : Bool := byte length + payload.sum + check == 0#8

/-- The frame of a payload: kind, tag, body (R167). -/
def frameOf : List Byte → Option Frame
  | kind :: tag :: body => some { kind := kind, tag := tag, body := body }
  | _ => none

/-- A character is taken from HRXD (Table 10-2). -/
def receiveByte (b : Byte) (s : State) : State :=
  match s.link.framer with
  | .hunt =>
    if b = Config.syncByte then
      { s with link := { s.link with framer := .length, expected := 0, assembly := [], gapTimer := some Config.gapLimitMs } }
    else countLink (fun c => { c with stray := bump c.stray }) s
  | .length =>
    if 2 ≤ b.toNat ∧ b.toNat ≤ 66 then
      { s with link := { s.link with framer := .payload, expected := b.toNat, gapTimer := some Config.gapLimitMs } }
    else toHunt (countLink (fun c => { c with length := bump c.length }) s)
  | .payload =>
    { s with link := { s.link with
        assembly := s.link.assembly ++ [b], gapTimer := some Config.gapLimitMs
        framer := if s.link.assembly.length + 1 = s.link.expected then .check else .payload } }
  | .check =>
    if checkAgrees s.link.expected s.link.assembly b then
      match frameOf s.link.assembly with
      | some f => placeFrame f (toHunt s)
      | none => toHunt s
    else toHunt (countLink (fun c => { c with check := bump c.check }) s)

/-- The gap timer expires inside a frame (R169). -/
def gapExpiry (s : State) : State :=
  if s.link.gapTimer.isSome then toHunt (countLink (fun c => { c with gap := bump c.gap }) s) else s

end Sys2Proof.Machine
end

