-- ==== Sys2Proof/Machine/RequestFamily.lean ====
section
/-! DEFINITION. The request commands: each is a good frame of its kind, completed by the receiver (R170) and taken by the
interpreter as soon as a reply slot is free (R172). What the request does is its answer in Requests.lean. -/

namespace Sys2Proof.Machine

/-- The outcome of a command. -/
abbrev Result := Host.Outcome State Fault Refusal

/-- GET-INFO (R177). -/
def execGetInfo (tag : Byte) (body : List Byte) (s : State) : Result := .next (hostRequest .getInfo tag body s)

/-- GET-STATUS (R178). -/
def execGetStatus (tag : Byte) (body : List Byte) (s : State) : Result := .next (hostRequest .getStatus tag body s)

/-- GET-STATS (R179). -/
def execGetStats (tag : Byte) (body : List Byte) (s : State) : Result := .next (hostRequest .getStats tag body s)

/-- RESET-PART (R180), with the pin levels its start samples (log 4). -/
def execResetPart (tag : Byte) (body : List Byte) (pins : Pins) (s : State) : Result :=
  .next (hostRequest .resetPart tag body (withPins pins s))

/-- CAL-READ (R122). -/
def execCalRead (tag : Byte) (body : List Byte) (s : State) : Result := .next (hostRequest .calRead tag body s)

/-- CAL-SET (R123). -/
def execCalSet (tag : Byte) (body : List Byte) (s : State) : Result := .next (hostRequest .calSet tag body s)

/-- CAL-RUN (R125). -/
def execCalRun (tag : Byte) (body : List Byte) (s : State) : Result := .next (hostRequest .calRun tag body s)

/-- CAL-STOP (R126). -/
def execCalStop (tag : Byte) (body : List Byte) (s : State) : Result := .next (hostRequest .calStop tag body s)

/-- CAL-CLEAR (R124). -/
def execCalClear (tag : Byte) (body : List Byte) (s : State) : Result := .next (hostRequest .calClear tag body s)

/-- SCH-WRITE (R142, R143). -/
def execSchWrite (tag : Byte) (body : List Byte) (s : State) : Result := .next (hostRequest .schWrite tag body s)

/-- SCH-READ (R144). -/
def execSchRead (tag : Byte) (body : List Byte) (s : State) : Result := .next (hostRequest .schRead tag body s)

/-- SCH-ENABLE (R145). -/
def execSchEnable (tag : Byte) (body : List Byte) (s : State) : Result := .next (hostRequest .schEnable tag body s)

/-- SCH-DISABLE (R146). -/
def execSchDisable (tag : Byte) (body : List Byte) (s : State) : Result := .next (hostRequest .schDisable tag body s)

/-- SCH-DELETE (R147). -/
def execSchDelete (tag : Byte) (body : List Byte) (s : State) : Result := .next (hostRequest .schDelete tag body s)

/-- SCH-LIST (R148). -/
def execSchList (tag : Byte) (body : List Byte) (s : State) : Result := .next (hostRequest .schList tag body s)

/-- STN-DEFINE (R68). -/
def execStnDefine (tag : Byte) (body : List Byte) (s : State) : Result := .next (hostRequest .stnDefine tag body s)

/-- STN-READ (R69). -/
def execStnRead (tag : Byte) (body : List Byte) (s : State) : Result := .next (hostRequest .stnRead tag body s)

/-- STN-FORGET (R70). -/
def execStnForget (tag : Byte) (body : List Byte) (s : State) : Result := .next (hostRequest .stnForget tag body s)

/-- STN-RESTORE (R71). -/
def execStnRestore (tag : Byte) (body : List Byte) (s : State) : Result := .next (hostRequest .stnRestore tag body s)

/-- BUS-SEND (R6, R7), with the level of LRDY it may read (log 4). -/
def execBusSend (tag : Byte) (body : List Byte) (lrdyHeld : Bool) (s : State) : Result :=
  .next (hostRequest .busSend tag body (withLrdy lrdyHeld s))

/-- BUS-CANCEL (R12 to R14), with the level of LRDY it may read (log 4). -/
def execBusCancel (tag : Byte) (body : List Byte) (lrdyHeld : Bool) (s : State) : Result :=
  .next (hostRequest .busCancel tag body (withLrdy lrdyHeld s))

/-- BUS-PAUSE (R55). -/
def execBusPause (tag : Byte) (body : List Byte) (s : State) : Result := .next (hostRequest .busPause tag body s)

/-- BUS-RESUME (R57, R59, R186), with the level of LRDY it may read (log 4). -/
def execBusResume (tag : Byte) (body : List Byte) (lrdyHeld : Bool) (s : State) : Result :=
  .next (hostRequest .busResume tag body (withLrdy lrdyHeld s))

/-- LINE-CONFIG (R61, R80). -/
def execLineConfig (tag : Byte) (body : List Byte) (s : State) : Result := .next (hostRequest .lineConfig tag body s)

/-- CONFIG-READ (R60). -/
def execConfigRead (tag : Byte) (body : List Byte) (s : State) : Result := .next (hostRequest .configRead tag body s)

/-- REF-ANSWER (R89), with the level of LRDY it may read (log 4). -/
def execRefAnswer (tag : Byte) (body : List Byte) (lrdyHeld : Bool) (s : State) : Result :=
  .next (hostRequest .refAnswer tag body (withLrdy lrdyHeld s))

/-- NOTE-ACK (R159, R155). -/
def execNoteAck (tag : Byte) (body : List Byte) (s : State) : Result := .next (hostRequest .noteAck tag body s)

/-- NOTE-FETCH (R158). -/
def execNoteFetch (tag : Byte) (body : List Byte) (s : State) : Result := .next (hostRequest .noteFetch tag body s)

/-- NOTE-REPLAY (R160). -/
def execNoteReplay (tag : Byte) (body : List Byte) (s : State) : Result := .next (hostRequest .noteReplay tag body s)

/-- NOTE-CONFIG (R161). -/
def execNoteConfig (tag : Byte) (body : List Byte) (s : State) : Result := .next (hostRequest .noteConfig tag body s)

/-- A good frame whose kind byte is no request code (R173 step 1). -/
def execUnknownKind (kind tag : Byte) (body : List Byte) (s : State) : Result :=
  .next (goodFrame { kind := kind, tag := tag, body := body } s)

end Sys2Proof.Machine
end

