-- ==== Sys2Proof/Machine/LinkFamily.lean ====
section
/-! DEFINITION. The events of the host link pins, of the supplies and of RSTn. -/

namespace Sys2Proof.Machine

/-- HOST_BYTE_RECEIVED (R168): nothing is taken with VDD absent or RSTn asserted (R181). -/
def execHostByteReceived (b : Byte) (pins : Pins) (s : State) : Result :=
  let s1 := withPins pins s
  .next (if s1.linkOn then serveLink (receiveByte b s1) else s1)

/-- GAP_TIMER_EXPIRY (R169). -/
def execGapTimerExpiry (s : State) : Result := .next (if s.linkOn then serveLink (gapExpiry s) else s)

/-- HRDY_ASSERTED (R176): the transmitter comes to its decision (R175). -/
def execHrdyAsserted (pins : Pins) (s : State) : Result := .next (serveLink { withPins pins s with hrdy := true })

/-- HRDY_DEASSERTED (R176): no frame begins from here on; one already begun is sent whole. -/
def execHrdyDeasserted (s : State) : Result := .next { s with hrdy := false }

/-- The frame on HTXD ends. -/
def endFrame (s : State) : State := { s with link := { s.link with sending := none } }

/-- TRANSMIT_FRAME_END (R175). -/
def execTransmitFrameEnd (pins : Pins) (s : State) : Result :=
  let s1 := withPins pins s
  .next (if s1.link.sending.isSome then mainEvent endFrame s1 else s1)

/-- The start made by the application of VDD: WARM where the backup domain kept its contents, else COLD (R128). -/
def powerStart (s : State) : State :=
  start (if s.backupKept then .warm else .cold) { s with vdd := true, backupKept := true }

/-- POWER_UP (R128, R129): nothing where VDD is present already (log 3). -/
def execPowerUp (pins : Pins) (s : State) : Result :=
  let s1 := withPins pins s
  .next (if s1.vdd then s1 else serveLink (powerStart s1))

/-- POWER_LOSS (R128): everything outside the backup domain is lost (log 11). -/
def execPowerLoss (s : State) : Result := .next (if s.vdd then { mainLost s with vdd := false } else s)

/-- BACKUP_LOSS (R128): with VDD absent the backup domain loses its contents; with VDD present it is supplied from VDD and
nothing changes (log 12). -/
def execBackupLoss (s : State) : Result :=
  .next (if s.vdd then s else { s with backupKept := false, cal := Calendar.cold })

/-- RSTN_ASSERTED (R181): the frame on HTXD is cut short, and nothing is taken from HRXD until RSTn is released. -/
def execRstnAsserted (s : State) : Result := .next { endFrame s with rstnAsserted := true }

/-- PIN_START: RSTn is released, and the part makes a PIN start (R65, R163, R165, R181). -/
def execPinStart (pins : Pins) (s : State) : Result :=
  let s1 := { withPins pins s with rstnAsserted := false }
  .next (if s1.vdd then serveLink (start .pin s1) else s1)

end Sys2Proof.Machine
end

