-- ==== Sys2Proof/Machine/CalendarFamily.lean ====
section
/-! DEFINITION. The events of the calendar (spec/07): oscillator edges, the settle timer, loss, the tick and its cascade. The
calendar lives while VDD is present or the backup domain keeps its contents (R128). -/

namespace Sys2Proof.Machine

/-- The calendar is powered: VDD is present, or the backup domain has kept its contents (R128). -/
def State.calAlive (s : State) : Bool := s.vdd || s.backupKept

/-- An event of the calendar: the link is served after it while VDD is present. -/
def calEventStep (act : State → State) (s : State) : State :=
  if s.calAlive then if s.vdd then serveLink (act s) else act s else s

/-- The day after this one, 65535 carrying to 0 (R118, R119). -/
def nextDay (d : Nat) : Nat := if d < 65535 then d + 1 else 0

/-- The advance of the hour (R118). -/
def Calendar.advanceHour (c : Calendar) : Calendar :=
  if c.hour < 23 then { c with hour := c.hour + 1 } else { c with hour := 0, day := nextDay c.day }

/-- The advance of the minute (R118). -/
def Calendar.advanceMinute (c : Calendar) : Calendar :=
  if c.minute < 59 then { c with minute := c.minute + 1 } else Calendar.advanceHour { c with minute := 0 }

/-- The advance of the second (R118). -/
def Calendar.advanceSecond (c : Calendar) : Calendar :=
  if c.second < 59 then { c with second := c.second + 1 } else Calendar.advanceMinute { c with second := 0 }

/-- The advance of the fraction with its whole cascade (R117, R118). -/
def Calendar.advance (c : Calendar) : Calendar :=
  if c.fraction < 255 then { c with fraction := c.fraction + 1 } else Calendar.advanceSecond { c with fraction := 0 }

/-- The next tick advances the second (R118). -/
def Calendar.atBoundary (c : Calendar) : Bool := 255 ≤ c.fraction

/-- The next tick carries the day from 65535 to 0 (R119). -/
def Calendar.atWrap (c : Calendar) : Bool :=
  c.atBoundary && decide (59 ≤ c.second ∧ 59 ≤ c.minute ∧ 23 ≤ c.hour ∧ 65535 ≤ c.day)

/-- The time a second boundary carries (R118). -/
def Calendar.boundary (c : Calendar) : SecondBoundary :=
  { day := c.day, hour := c.hour, minute := c.minute, second := c.second }

/-- A tick (R117 to R119): the divider returns to 0, the fraction advances with its cascade; with VDD present a day wrap
raises CAL-EVENT (WRAP), and then a second boundary is raised to the Schedule Unit. -/
def tick (s : State) : State :=
  let c : Calendar := { s.cal.advance with divider := 0 }
  let s1 := { s with cal := c }
  if s.vdd then
    let s2 := if s.cal.atWrap then raise (.calEvent .wrap c.counters) s1 else s1
    if s.cal.atBoundary then { s2 with boundaries := s2.boundaries ++ [c.boundary] } else s2
  else s1

/-- One crystal period in RUNNING: the divider counts it, and the 128th makes a tick (R117, log 14). -/
def countPeriod (s : State) : State :=
  if 127 ≤ s.cal.divider then tick s else { s with cal := { s.cal with divider := s.cal.divider + 1 } }

/-- An edge restarts the monitor's timer (R120, R128). -/
def judgeEdge (s : State) : State := { s with cal := { s.cal with monitorTimer := some Config.monitorMs } }

/-- An oscillator edge (Table 7-3, R117). -/
def oscillatorEdge (s : State) : State :=
  let s1 := judgeEdge s
  match s.cal.monitor with
  | .lost => { s1 with cal := { s1.cal with monitor := .starting, settleTimer := some Config.settleMs } }
  | .starting => s1
  | .stable => if s.cal.running then countPeriod s1 else s1

/-- OSCILLATOR_EDGE (R120, R117). -/
def execOscillatorEdge (s : State) : Result := .next (calEventStep oscillatorEdge s)

/-- The settle timer expires in STARTING (Table 7-3). -/
def settle (s : State) : State :=
  match s.cal.monitor with
  | .starting => { s with cal := { s.cal with monitor := .stable, oscStable := true, settleTimer := none } }
  | .lost => s
  | .stable => s

/-- SETTLE_TIMER_EXPIRY (R120). -/
def execSettleTimerExpiry (s : State) : Result := .next (calEventStep settle s)

/-- The calendar record as a loss leaves it (R120, R121). -/
def Calendar.lose (c : Calendar) : Calendar :=
  { c with monitor := .lost, settleTimer := none, monitorTimer := none, oscStable := false, running := false,
           timeValid := false, divider := 0 }

/-- A loss is declared (R121): CAL-EVENT (OSC-LOST) is raised where VDD is present. -/
def loseOscillator (s : State) : State :=
  let s1 := { s with cal := s.cal.lose }
  if s.vdd then raise (.calEvent .oscLost s1.cal.counters) s1 else s1

/-- No edge for 4 ms, the expiry of the monitor's timer (Table 7-3): in LOST nothing is left to lose. -/
def oscLoss (s : State) : State :=
  match s.cal.monitor with
  | .lost => s
  | .starting => loseOscillator s
  | .stable => loseOscillator s

/-- OSC_LOSS (R121). -/
def execOscLoss (s : State) : Result := .next (calEventStep oscLoss s)

/-- TICK (R117 to R119): the 128th period of the divider is counted, in RUNNING alone. -/
def execTick (s : State) : Result := .next (calEventStep (fun s => if s.cal.running then tick s else s) s)

end Sys2Proof.Machine
end

