-- ==== Sys2Proof/Machine/LineFamily.lean ====
section
/-! DEFINITION. The events of the station line (spec/02, spec/03): LRDY, bytes, the timers of an exchange, the waits between
attempts, the hold timer. An event the engine is not waiting for changes nothing (log 3). -/

namespace Sys2Proof.Machine

/-- The exchange context is written. -/
def setExchange (x : Exchange) (s : State) : State := { s with engine := { s.engine with exchange := some x } }

/-- An event of the exchange in progress. -/
def onExchange (act : Exchange → State → State) (s : State) : State :=
  match s.engine.exchange with
  | some x => act x s
  | none => s

/-- A ready wait begins: the ready timer runs where LRDY is held (R26). -/
def Exchange.readyWait (held : Bool) (timeoutMs : Nat) (x : Exchange) : Exchange :=
  { x with ready := if held then some timeoutMs else none }

/-- The exchange after LRDY is released (R26, R27, R30). During the turn hold the part itself holds LRDY. -/
def Exchange.released (x : Exchange) : Exchange :=
  match x.phase with
  | .lineCheck => { x with phase := .send, lineStuck := none }
  | .send => { x with ready := none }
  | .turn => if x.turnHold.isNone then { x with phase := .receive, replyWindow := none } else x
  | .receive => { x with ready := none }

/-- LRDY_RELEASED (R26, R27, R30). -/
def execLrdyReleased (s : State) : Result :=
  .next (mainEvent (onExchange (fun x => setExchange x.released)) (withLrdy false s))

/-- The line-stuck timer expires at LINE-CHECK (R28). -/
def lineStuckExpiry (x : Exchange) (s : State) : State :=
  if x.phase = .lineCheck then endExchange x .lineFault s else s

/-- LINE_STUCK_EXPIRY (R28, R58). -/
def execLineStuckExpiry (s : State) : Result := .next (mainEvent (onExchange lineStuckExpiry) s)

/-- The ready timer expires (R26, R29, R31). -/
def readyTimerExpiry (x : Exchange) (s : State) : State :=
  if x.ready.isSome then
    match x.phase with
    | .send => endExchange x (.failed .noReady) s
    | .receive => endExchange x (.failed .noReply) s
    | .lineCheck => s
    | .turn => s
  else s

/-- READY_TIMER_EXPIRY (R26). -/
def execReadyTimerExpiry (lrdyHeld : Bool) (s : State) : Result :=
  .next (mainEvent (onExchange readyTimerExpiry) (withLrdy lrdyHeld s))

/-- TURN begins with its two timers (R30). -/
def Exchange.turn (c : LineConfig) (x : Exchange) : Exchange :=
  { x with phase := .turn, replyWindow := some c.replyWindowMs, turnHold := some c.rate.byteTimeUs }

/-- A frame byte has been clocked: the next eight bits of `Exchange.sentSignals` (R20, R29). It leads to the next ready wait, or at the check byte TURN or the result SENT. -/
def frameByteSent (x : Exchange) (s : State) : State :=
  if x.phase = .send ∧ x.ready = none then
    let x1 := { x with bytesSent := x.bytesSent + 1 }
    if x.bytesSent + 1 < x.frame.bytes.length then
      setExchange (x1.readyWait s.lrdyHeld s.engine.config.readyTimeoutMs) s
    else if x.replyExpected then setExchange (x1.turn s.engine.config) s
    else endExchange x1 .sent s
  else s

/-- FRAME_BYTE_SENT (R29). -/
def execFrameByteSent (lrdyHeld : Bool) (s : State) : Result :=
  .next (mainEvent (onExchange frameByteSent) (withLrdy lrdyHeld s))

/-- The turn hold expires: the part lets go of LRDY and reads it (R30). -/
def turnHoldExpiry (x : Exchange) (s : State) : State :=
  if x.phase = .turn ∧ x.turnHold.isSome = true then
    if s.lrdyHeld then setExchange { x with turnHold := none } s else endExchange x (.failed .noReply) s
  else s

/-- TURN_HOLD_EXPIRY (R30). -/
def execTurnHoldExpiry (lrdyHeld : Bool) (s : State) : Result :=
  .next (mainEvent (onExchange turnHoldExpiry) (withLrdy lrdyHeld s))

/-- The reply window expires in TURN (R30). -/
def replyWindowExpiry (x : Exchange) (s : State) : State :=
  if x.phase = .turn then endExchange x (.failed .noReply) s else s

/-- REPLY_WINDOW_EXPIRY (R30). -/
def execReplyWindowExpiry (lrdyHeld : Bool) (s : State) : Result :=
  .next (mainEvent (onExchange replyWindowExpiry) (withLrdy lrdyHeld s))

/-- CLOSE (R33): the check of the bytes before it is compared with the check received. -/
def closeResult (cls : ReplyClass) (received : List Byte) (check : Byte) : AttemptResult :=
  if lineCheck received = check then
    .reply { cls := cls, status := received.getD 1 0#8, data := received.drop 2 }
  else .failed .checkError

/-- A reply byte has been clocked, `b` the byte of its eight samples of LDT (R20, `byteOfBits`; R31, R32): the head is judged at once; the check leads to CLOSE. -/
def replyByteReceived (b : Byte) (x : Exchange) (s : State) : State :=
  if x.phase = .receive ∧ x.ready = none then
    match replyHeadOf (x.replySoFar.headD b) with
    | none => endExchange x (.failed .checkError) s
    | some (cls, count) =>
      if x.replySoFar.length < count + 2 then
        setExchange (({ x with replySoFar := x.replySoFar ++ [b] } : Exchange).readyWait s.lrdyHeld
          s.engine.config.readyTimeoutMs) s
      else endExchange x (closeResult cls x.replySoFar b) s
  else s

/-- REPLY_BYTE_RECEIVED (R31 to R33). -/
def execReplyByteReceived (b : Byte) (lrdyHeld : Bool) (s : State) : Result :=
  .next (mainEvent (onExchange (replyByteReceived b)) (withLrdy lrdyHeld s))

/-- The next attempt of the current transaction, where the engine waits (R51). -/
def nextAttempt (s : State) : State :=
  match s.engine.work with
  | some (.transaction t) => beginAttempt t s
  | _ => s

/-- The line rest expires (R51). -/
def lineRestExpiry (s : State) : State :=
  match s.engine.wait with
  | some (.lineRest _) => nextAttempt s
  | _ => s

/-- LINE_REST_EXPIRY (R51). -/
def execLineRestExpiry (lrdyHeld : Bool) (s : State) : Result := .next (mainEvent lineRestExpiry (withLrdy lrdyHeld s))

/-- The busy backoff expires (R51). -/
def busyBackoffExpiry (s : State) : State :=
  match s.engine.wait with
  | some (.busyBackoff _) => nextAttempt s
  | _ => s

/-- BUSY_BACKOFF_EXPIRY (R51). -/
def execBusyBackoffExpiry (lrdyHeld : Bool) (s : State) : Result :=
  .next (mainEvent busyBackoffExpiry (withLrdy lrdyHeld s))

/-- A hold timeout is counted (R62, R92). -/
def countHoldTimeout (s : State) : State :=
  { s with engine := { s.engine with
      counters := { s.engine.counters with holdTimeouts := bump s.engine.counters.holdTimeouts } } }

/-- The hold timer expires while a referral is open: the closing claim TIMEOUT (R92). -/
def holdTimerExpiry (s : State) : State :=
  match s.engine.referral with
  | some r => closeReferral r .timeout [] (countHoldTimeout s)
  | none => s

/-- HOLD_TIMER_EXPIRY (R92). -/
def execHoldTimerExpiry (lrdyHeld : Bool) (s : State) : Result := .next (mainEvent holdTimerExpiry (withLrdy lrdyHeld s))

end Sys2Proof.Machine
end

