-- ==== Sys2Proof/Machine/PollFamily.lean ====
section
/-! DEFINITION. The events of the Poll Unit (spec/06): LATN, the holdoff, the presentation of a request. -/

namespace Sys2Proof.Machine

/-- LATN becomes held: an IDLE unit comes to its test (R102). -/
def execLatnHeld (s : State) : Result := .next (mainEvent pollTest { s with latnHeld := true })

/-- LATN is released: IGNORING ends with ATTENTION-CLEAR (R109); elsewhere the release is found at the next reading (R104). -/
def latnReleased (s : State) : State :=
  if s.poll.state = .ignoring then
    pollTest (raise (.busState .attentionClear) { s with poll := { s.poll with state := .idle, phantomCount := 0 } })
  else s

/-- LATN_RELEASED (R109). -/
def execLatnReleased (s : State) : Result := .next (mainEvent latnReleased { s with latnHeld := false })

/-- The holdoff expires: the unit enters IDLE and comes to its test (R108, R102). -/
def pollHoldoffExpiry (s : State) : State :=
  if s.poll.state = .holdoff then pollTest { s with poll := { s.poll with state := .idle, holdoff := none } } else s

/-- POLL_HOLDOFF_EXPIRY (R108). -/
def execPollHoldoffExpiry (s : State) : Result := .next (mainEvent pollHoldoffExpiry s)

/-- A presented request reaches the IDLE engine, which comes to a grant decision (R46, R186, log 9). -/
def requestPresented (s : State) : State :=
  if s.poll.due then decideGrant { s with poll := { s.poll with due := false } } else s

/-- POLL_REQUEST_PRESENTED (R46, R47). -/
def execPollRequestPresented (lrdyHeld : Bool) (s : State) : Result :=
  .next (mainEvent requestPresented (withLrdy lrdyHeld s))

end Sys2Proof.Machine
end

