-- ==== Sys2Proof/Machine/Evaluation.lean ====
section
/-! DEFINITION. The events of the Schedule Unit (spec/08): the evaluation of one second-boundary event with what comes between
two of its claims (R135), and a completion report. -/

namespace Sys2Proof.Machine

/-! ### What comes between two claims (R135, log 8) -/

/-- A BUS-CANCEL that comes after a decision for the queue and before its take: the take then finds the queue as the cancel
left it (R9, R47, log 21). Where no such decision stands, it is a BUS-CANCEL like any other. -/
def cancelDecided (tag : Byte) (body : List Byte) (s : State) : State :=
  let s1 := hostRequest .busCancel tag body s
  if s.engine.state = .idle ∧ s.queueChosen = true then mainEvent takeDecided s1 else s1

/-- An event between two claims: the meaning of the command of its name, the engine's take of the head, or a BUS-CANCEL
ahead of a take already decided (R135, log 8). -/
def execBetween : BetweenEvent → State → Result
  | .take held, s => .next (mainEvent decideGrant (withLrdy held s))
  | .cancelDecided tag body held, s => .next (cancelDecided tag body (withLrdy held s))
  | .request k tag body pins, s => .next (hostRequest k tag body (requestLevels k pins s))
  | .unknownKind kind tag body, s => execUnknownKind kind tag body s
  | .hrdyAsserted pins, s => execHrdyAsserted pins s
  | .hrdyDeasserted, s => execHrdyDeasserted s
  | .transmitFrameEnd pins, s => execTransmitFrameEnd pins s
  | .oscillatorEdge, s => execOscillatorEdge s
  | .settleTimerExpiry, s => execSettleTimerExpiry s
  | .oscLoss, s => execOscLoss s
  | .tick, s => execTick s
  | .lrdyReleased, s => execLrdyReleased s
  | .lineStuckExpiry, s => execLineStuckExpiry s
  | .readyTimerExpiry held, s => execReadyTimerExpiry held s
  | .frameByteSent held, s => execFrameByteSent held s
  | .turnHoldExpiry held, s => execTurnHoldExpiry held s
  | .replyWindowExpiry held, s => execReplyWindowExpiry held s
  | .replyByteReceived b held, s => execReplyByteReceived b held s
  | .lineRestExpiry held, s => execLineRestExpiry held s
  | .busyBackoffExpiry held, s => execBusyBackoffExpiry held s
  | .holdTimerExpiry held, s => execHoldTimerExpiry held s
  | .latnHeld, s => execLatnHeld s
  | .latnReleased, s => execLatnReleased s
  | .pollHoldoffExpiry, s => execPollHoldoffExpiry s
  | .pollRequestPresented held, s => execPollRequestPresented held s

/-- The SCHEDULE transactions whose completion the schedule table awaits: queued, at the engine, and as records on their
way. Only a report that reaches the table lowers their number (R17, R141). -/
def State.awaited (s : State) : Nat :=
  s.queue.order.countP (fun t => !t.isHost) + (if s.engine.ofSchedule then 1 else 0) + s.reports.length

/-- The frames that wait and ask for the schedule table or a start. -/
def State.tableRequests (s : State) : List Frame :=
  s.link.intake.filter (fun f => !(RequestKind.ofCode f.kind).all RequestKind.besideEvaluation)

/-- The change from s to t leaves the evaluation whole: no completion report and no waiting request has reached the schedule
table, and no waiting RESET-PART was taken (R135). -/
def leavesEvaluationWhole (s t : State) : Bool := t.awaited == s.awaited && t.tableRequests == s.tableRequests

/-- The state an event between two claims leads to. An event that would bring the schedule table a request or a completion
report, as an end of work does that takes its record ahead of its BUS-STATE (log 20), has no effect inside an evaluation: it
comes before it or after it (R135, R139, log 8). -/
def afterBetween (e : BetweenEvent) (s : State) : State :=
  match execBetween e s with
  | .next t => if e.besideEvaluation && leavesEvaluationWhole s t then t else s
  | .fault _ => s
  | .refused _ => s

/-- The events that come as the scan has dealt with entry i, in their order (R135, log 8). -/
def takeBetween (between : List Between) (i : Nat) (s : State) : State :=
  (between.filter (fun b => b.entry == i)).foldl (fun t b => afterBetween b.event t) s

/-! ### The evaluation -/

/-- The scan of an evaluation over the entries left, in index order (R135). The calendar stands still in it but for the ticks
that come between: without one, every firing takes the same snapshot (R140, log 8). -/
def scanEntries (ev : SecondBoundary) (between : List Between) : List Nat → State → State
  | [], s => s
  | i :: later, s =>
    scanEntries ev between later (takeBetween between i (if (s.entryAt i).fires ev then fireEntry ev i s else s))

/-- One evaluation: the scan from index 0 to 39, then the grant decision of an engine left IDLE with work (R46, R135). -/
def evaluate (ev : SecondBoundary) (between : List Between) (s : State) : State :=
  decideGrant (scanEntries ev between (List.range Config.entryCount) s)

/-- The oldest second-boundary event raised is evaluated (R135). -/
def evaluateNext (between : List Between) (s : State) : State :=
  match s.boundaries with
  | ev :: rest => evaluate ev between { s with boundaries := rest }
  | [] => s

/-- SCHEDULE_EVALUATION (R135). -/
def execScheduleEvaluation (lrdyHeld : Bool) (between : List Between) (s : State) : Result :=
  .next (mainEvent (evaluateNext between) (withLrdy lrdyHeld s))

/-- COMPLETION_REPORT (R141). -/
def execCompletionReport (s : State) : Result := .next (mainEvent takeNextReport s)

end Sys2Proof.Machine
end

