-- ==== Sys2Proof/Machine/Dispatch.lean ====
section
/-! DEFINITION. The meaning of each command: one arm per constructor of Instr, in the order of the opcode table. -/

namespace Sys2Proof.Machine

def exec (i : Instr) (s : State) : Host.Outcome State Fault Refusal :=
  match i with
  | .getInfo tag body => Sys2Proof.Machine.execGetInfo tag body s
  | .getStatus tag body => Sys2Proof.Machine.execGetStatus tag body s
  | .getStats tag body => Sys2Proof.Machine.execGetStats tag body s
  | .resetPart tag body pins => Sys2Proof.Machine.execResetPart tag body pins s
  | .calRead tag body => Sys2Proof.Machine.execCalRead tag body s
  | .calSet tag body => Sys2Proof.Machine.execCalSet tag body s
  | .calRun tag body => Sys2Proof.Machine.execCalRun tag body s
  | .calStop tag body => Sys2Proof.Machine.execCalStop tag body s
  | .calClear tag body => Sys2Proof.Machine.execCalClear tag body s
  | .schWrite tag body => Sys2Proof.Machine.execSchWrite tag body s
  | .schRead tag body => Sys2Proof.Machine.execSchRead tag body s
  | .schEnable tag body => Sys2Proof.Machine.execSchEnable tag body s
  | .schDisable tag body => Sys2Proof.Machine.execSchDisable tag body s
  | .schDelete tag body => Sys2Proof.Machine.execSchDelete tag body s
  | .schList tag body => Sys2Proof.Machine.execSchList tag body s
  | .stnDefine tag body => Sys2Proof.Machine.execStnDefine tag body s
  | .stnRead tag body => Sys2Proof.Machine.execStnRead tag body s
  | .stnForget tag body => Sys2Proof.Machine.execStnForget tag body s
  | .stnRestore tag body => Sys2Proof.Machine.execStnRestore tag body s
  | .busSend tag body lrdyHeld => Sys2Proof.Machine.execBusSend tag body lrdyHeld s
  | .busCancel tag body lrdyHeld => Sys2Proof.Machine.execBusCancel tag body lrdyHeld s
  | .busPause tag body => Sys2Proof.Machine.execBusPause tag body s
  | .busResume tag body lrdyHeld => Sys2Proof.Machine.execBusResume tag body lrdyHeld s
  | .lineConfig tag body => Sys2Proof.Machine.execLineConfig tag body s
  | .configRead tag body => Sys2Proof.Machine.execConfigRead tag body s
  | .refAnswer tag body lrdyHeld => Sys2Proof.Machine.execRefAnswer tag body lrdyHeld s
  | .noteAck tag body => Sys2Proof.Machine.execNoteAck tag body s
  | .noteFetch tag body => Sys2Proof.Machine.execNoteFetch tag body s
  | .noteReplay tag body => Sys2Proof.Machine.execNoteReplay tag body s
  | .noteConfig tag body => Sys2Proof.Machine.execNoteConfig tag body s
  | .unknownKind kind tag body => Sys2Proof.Machine.execUnknownKind kind tag body s
  | .hostByteReceived b pins => Sys2Proof.Machine.execHostByteReceived b pins s
  | .gapTimerExpiry => Sys2Proof.Machine.execGapTimerExpiry s
  | .hrdyAsserted pins => Sys2Proof.Machine.execHrdyAsserted pins s
  | .hrdyDeasserted => Sys2Proof.Machine.execHrdyDeasserted s
  | .transmitFrameEnd pins => Sys2Proof.Machine.execTransmitFrameEnd pins s
  | .powerUp pins => Sys2Proof.Machine.execPowerUp pins s
  | .powerLoss => Sys2Proof.Machine.execPowerLoss s
  | .backupLoss => Sys2Proof.Machine.execBackupLoss s
  | .rstnAsserted => Sys2Proof.Machine.execRstnAsserted s
  | .pinStart pins => Sys2Proof.Machine.execPinStart pins s
  | .oscillatorEdge => Sys2Proof.Machine.execOscillatorEdge s
  | .settleTimerExpiry => Sys2Proof.Machine.execSettleTimerExpiry s
  | .oscLoss => Sys2Proof.Machine.execOscLoss s
  | .tick => Sys2Proof.Machine.execTick s
  | .scheduleEvaluation lrdyHeld between => Sys2Proof.Machine.execScheduleEvaluation lrdyHeld between s
  | .completionReport => Sys2Proof.Machine.execCompletionReport s
  | .lrdyReleased => Sys2Proof.Machine.execLrdyReleased s
  | .lineStuckExpiry => Sys2Proof.Machine.execLineStuckExpiry s
  | .readyTimerExpiry lrdyHeld => Sys2Proof.Machine.execReadyTimerExpiry lrdyHeld s
  | .frameByteSent lrdyHeld => Sys2Proof.Machine.execFrameByteSent lrdyHeld s
  | .turnHoldExpiry lrdyHeld => Sys2Proof.Machine.execTurnHoldExpiry lrdyHeld s
  | .replyWindowExpiry lrdyHeld => Sys2Proof.Machine.execReplyWindowExpiry lrdyHeld s
  | .replyByteReceived b lrdyHeld => Sys2Proof.Machine.execReplyByteReceived b lrdyHeld s
  | .lineRestExpiry lrdyHeld => Sys2Proof.Machine.execLineRestExpiry lrdyHeld s
  | .busyBackoffExpiry lrdyHeld => Sys2Proof.Machine.execBusyBackoffExpiry lrdyHeld s
  | .holdTimerExpiry lrdyHeld => Sys2Proof.Machine.execHoldTimerExpiry lrdyHeld s
  | .latnHeld => Sys2Proof.Machine.execLatnHeld s
  | .latnReleased => Sys2Proof.Machine.execLatnReleased s
  | .pollHoldoffExpiry => Sys2Proof.Machine.execPollHoldoffExpiry s
  | .pollRequestPresented lrdyHeld => Sys2Proof.Machine.execPollRequestPresented lrdyHeld s

end Sys2Proof.Machine
end

