-- ==== Sys2Proof/Machine/Step.lean ====
section
/-! DEFINITION. One step: the command at the front of the queue is taken and executed. -/

namespace Sys2Proof.Machine

/-- The command at the front of the queue is executed on the state with the queue's rest; on an empty queue the part idles
(log 6). -/
def step (s : State) : Host.Outcome State Fault Refusal :=
  match s.pending with
  | c :: rest => exec c { s with pending := rest }
  | [] => .next s

/-- The command a word of the opcode table spells is put at the front of the queue. No row of the table gives bits, so no
word spells a command and the state is unchanged (log 18). -/
def State.withFetchWord (s : State) (nbits w : Nat) : State :=
  match decodeTableWord nbits w with
  | some c => { s with pending := c :: s.pending }
  | none => s

end Sys2Proof.Machine
end

