-- ==== Sys2Proof/Safety.lean ====
section
/-! DEFINITION. What every reachable state of the HZ316 keeps, block by block, as decidable checks, and the conditions under
which a request is taken at once. The obligations are stated in these terms. -/

namespace Sys2Proof.Machine

/-! ### When a request is taken -/

/-- The part is powered, RSTn is released, no frame waits, and a reply slot is free: a good frame is taken at once (R172). -/
structure LinkReady (s : State) : Prop where
  on : s.linkOn = true
  intake : s.link.intake = []
  slot : s.link.replies.length < Config.replyCapacity

/-- The part after a request is answered: the reply placed, and the transmitter's decision (R172, R175). -/
def answered (kind tag : Byte) (st : ReplyStatus) (data : List Byte) (s : State) : State :=
  transmit (placeReply { kind := kind + 0x80#8, tag := tag, body := st.code :: data } s)

/-- No frame can begin on HTXD now: HRDY is deasserted or a frame is being sent (R175, R176). -/
def State.transmitterHeld (s : State) : Bool := !s.mayTransmit

/-- The transaction fields of BUS-SEND and SCH-WRITE that Table 1-3 steps 1 to 3 and Table 8-5 step 4 refuse, read byte by
byte from Table 11-2: class, destination, sub-unit, command, retry limit, argument count. -/
def badTxnFields (cls dest sub command retry count : Byte) : Bool :=
  let number := dest.toNat % 32
  let kind := dest.toNat / 32 % 4
  decide (1 < cls.toNat) || kind == 3 || (kind == 0 && decide (number < 1 ∨ 30 < number)) || (kind == 1 && decide (7 < number)) ||
  (kind == 2 && decide (0 < number)) || decide (0xF0 ≤ command.toNat) || decide (8 < count.toNat) || decide (3 < retry.toNat) ||
  (decide (128 ≤ dest.toNat) && (kind != 0 || decide (15 < sub.toNat)))

/-- The definition fields ahead of the action that Table 8-5 steps 1 and 2 refuse (Table 11-5). -/
def badEntryFields (sec min hr len ph rep ov rpt : Byte) : Bool :=
  decide (59 < sec.toNat) || decide (59 < min.toNat ∧ min.toNat ≠ 255) || decide (23 < hr.toNat ∧ hr.toNat ≠ 255) ||
  decide (len.toNat = 0) || decide (64 < len.toNat ∧ len.toNat ≠ 255) || decide (len.toNat ≠ 255 ∧ len.toNat ≤ ph.toNat) ||
  decide (1 < rep.toNat) || decide (1 < ov.toNat) || decide (2 < rpt.toNat)

/-- The bytes of a transaction's fields with sub-unit byte `x` where no sub-unit is given: the byte is taken without a check
and has no effect (R183). -/
def TxnSpec.bytesWith (x : Byte) (t : TxnSpec) : List Byte := if t.subUnit.isNone then t.bytes.set 2 x else t.bytes

/-- The bytes of an entry definition with phase byte `ph` where the day is ANY and sub-unit byte `x` where the transaction of
a TRANSACT has no sub-unit: both bytes are taken without a check and have no effect (R183). -/
def EntryDef.bytesWith (x ph : Byte) (d : EntryDef) : List Byte :=
  let b := if d.day.isNone then d.bytes.set 4 ph else d.bytes
  match d.action with
  | .notify _ => b
  | .transact t => if t.subUnit.isNone then b.set 11 x else b

/-- The command of a request kind. -/
def requestCommand (k : RequestKind) (tag : Byte) (body : List Byte) (pins : Pins) : Instr :=
  match k with
  | .getInfo => .getInfo tag body
  | .getStatus => .getStatus tag body
  | .getStats => .getStats tag body
  | .resetPart => .resetPart tag body pins
  | .calRead => .calRead tag body
  | .calSet => .calSet tag body
  | .calRun => .calRun tag body
  | .calStop => .calStop tag body
  | .calClear => .calClear tag body
  | .schWrite => .schWrite tag body
  | .schRead => .schRead tag body
  | .schEnable => .schEnable tag body
  | .schDisable => .schDisable tag body
  | .schDelete => .schDelete tag body
  | .schList => .schList tag body
  | .stnDefine => .stnDefine tag body
  | .stnRead => .stnRead tag body
  | .stnForget => .stnForget tag body
  | .stnRestore => .stnRestore tag body
  | .busSend => .busSend tag body pins.lrdyHeld
  | .busCancel => .busCancel tag body pins.lrdyHeld
  | .busPause => .busPause tag body
  | .busResume => .busResume tag body pins.lrdyHeld
  | .lineConfig => .lineConfig tag body
  | .configRead => .configRead tag body
  | .refAnswer => .refAnswer tag body pins.lrdyHeld
  | .noteAck => .noteAck tag body
  | .noteFetch => .noteFetch tag body
  | .noteReplay => .noteReplay tag body
  | .noteConfig => .noteConfig tag body

/-- The command an event between two claims stands for; the take and a cancel ahead of a decided take are no rows of the table
(log 8). -/
def betweenCommand : BetweenEvent → Option Instr
  | .take _ => none
  | .cancelDecided _ _ _ => none
  | .request k tag body pins => some (requestCommand k tag body pins)
  | .unknownKind kind tag body => some (.unknownKind kind tag body)
  | .hrdyAsserted pins => some (.hrdyAsserted pins)
  | .hrdyDeasserted => some .hrdyDeasserted
  | .transmitFrameEnd pins => some (.transmitFrameEnd pins)
  | .oscillatorEdge => some .oscillatorEdge
  | .settleTimerExpiry => some .settleTimerExpiry
  | .oscLoss => some .oscLoss
  | .tick => some .tick
  | .lrdyReleased => some .lrdyReleased
  | .lineStuckExpiry => some .lineStuckExpiry
  | .readyTimerExpiry held => some (.readyTimerExpiry held)
  | .frameByteSent held => some (.frameByteSent held)
  | .turnHoldExpiry held => some (.turnHoldExpiry held)
  | .replyWindowExpiry held => some (.replyWindowExpiry held)
  | .replyByteReceived b held => some (.replyByteReceived b held)
  | .lineRestExpiry held => some (.lineRestExpiry held)
  | .busyBackoffExpiry held => some (.busyBackoffExpiry held)
  | .holdTimerExpiry held => some (.holdTimerExpiry held)
  | .latnHeld => some .latnHeld
  | .latnReleased => some .latnReleased
  | .pollHoldoffExpiry => some .pollHoldoffExpiry
  | .pollRequestPresented held => some (.pollRequestPresented held)

/-- The calendar's counters as one number of ticks, in units of 1/256 s from day 0, 00:00:00. -/
def Calendar.ticks (c : Calendar) : Nat :=
  (((c.day * 24 + c.hour) * 60 + c.minute) * 60 + c.second) * 256 + c.fraction

/-! ### Notice Unit -/

/-- Each notice is followed by the next sequence number, and the newest by the counter (R153). -/
def runsTo (counter : Nat) : List Notice → Bool
  | [] => true
  | [n] => wrap256 n.seq == counter
  | n :: m :: rest => wrap256 n.seq == m.seq && runsTo counter (m :: rest)

/-- The Notice Unit's record is in range: at most 16 notices with consecutive numbers (R153), lost notices only while the
queue is full (R154, R155), credit only in PULL (R157, R161). -/
def NoticeUnit.ok (u : NoticeUnit) : Bool :=
  decide (u.queue.length ≤ Config.noticeCapacity) && u.queue.all (fun n => n.seq < 256) && runsTo u.seqCounter u.queue &&
  decide (u.seqCounter < 256) && decide (u.lostCount ≤ 255) &&
  (u.lostCount == 0 || u.queue.length == Config.noticeCapacity) && decide (u.credit ≤ 16) && (u.mode == .pull || u.credit == 0)

/-! ### Dispatch Queue -/

/-- The queue's bounds and the tickets of the live transactions (R3, R4, R5). -/
def State.ticketsOk (s : State) : Bool :=
  decide (s.queue.count ≤ Config.queueCapacity) && decide (s.queue.hostCount ≤ Config.hostQuota) &&
  decide s.liveTickets.Nodup && s.liveTickets.all (fun t => 1 ≤ t ∧ t ≤ 65535) &&
  decide (1 ≤ s.queue.ticketCounter ∧ s.queue.ticketCounter ≤ 65535) &&
  s.queue.urgent.all (fun t => t.spec.cls == .urgent) && s.queue.normal.all (fun t => t.spec.cls == .normal)

/-! ### Host Link Unit -/

/-- The receiver's fields agree with its framer state (R168, R169). -/
def HostLink.receiverOk (l : HostLink) : Bool :=
  match l.framer with
  | .hunt => l.expected == 0 && l.assembly.isEmpty && l.gapTimer == none
  | .length => l.expected == 0 && l.assembly.isEmpty && l.gapTimer == some Config.gapLimitMs
  | .payload => decide (2 ≤ l.expected ∧ l.expected ≤ 66 ∧ l.assembly.length < l.expected) && l.gapTimer == some Config.gapLimitMs
  | .check => decide (2 ≤ l.expected ∧ l.expected ≤ 66 ∧ l.assembly.length = l.expected) && l.gapTimer == some Config.gapLimitMs

/-- The link counters stay within 16 bits (R171). -/
def LinkCounters.ok (c : LinkCounters) : Bool := [c.stray, c.gap, c.length, c.check, c.overflow].all (· ≤ 65535)

/-- The Host Link Unit: at most 4 frames in each queue (R170, R173); a frame waits only while the reply queue is full
(R172); an idle transmitter that may send has nothing to send (R175); nothing is sent while the link is off (R181). -/
def State.linkOk (s : State) : Bool :=
  s.link.receiverOk && s.link.counters.ok &&
  decide (s.link.intake.length ≤ Config.intakeCapacity) && decide (s.link.replies.length ≤ Config.replyCapacity) &&
  (!s.linkOn || s.link.intake.isEmpty || s.link.replies.length == Config.replyCapacity) &&
  (!s.linkOn || !s.mayTransmit || (s.link.replies.isEmpty && s.notices.eligible.isNone)) &&
  (s.linkOn || s.link.sending.isNone)

/-! ### Calendar -/

/-- The calendar's ranges and its flags (R115, R116, R117, R120). -/
def Calendar.ok (c : Calendar) : Bool :=
  decide (c.fraction ≤ 255 ∧ c.second ≤ 59 ∧ c.minute ≤ 59 ∧ c.hour ≤ 23 ∧ c.day ≤ 65535 ∧ c.divider ≤ 127) &&
  (!c.running || c.oscStable) && (c.oscStable == (c.monitor == .stable)) &&
  (c.settleTimer.isSome == (c.monitor == .starting)) && (c.monitorTimer.isSome == (c.monitor != .lost)) &&
  (c.running || c.divider == 0)

/-! ### Schedule table -/

/-- A transaction's fields are in the ranges of Table 1-1, the ticket aside. -/
def TxnSpec.ok (t : TxnSpec) : Bool :=
  (match t.dest with
    | .station n => decide (1 ≤ n ∧ n ≤ 30)
    | .group g => decide (g ≤ 7)
    | .all => true) &&
  (match t.subUnit with
    | none => true
    | some u => decide (u ≤ 15) && t.dest.replies) &&
  decide (t.command.toNat < 0xF0 ∧ t.args.length ≤ 8 ∧ t.retryLimit ≤ 3)

/-- An action's fields are in range (R131). -/
def Action.ok : Action → Bool
  | .notify _ => true
  | .transact t => t.ok

/-- A definition's fields are in range (R131). -/
def EntryDef.ok (d : EntryDef) : Bool :=
  decide (d.second ≤ 59) && d.minute.all (· ≤ 59) && d.hour.all (· ≤ 23) &&
  d.day.all (fun p => 1 ≤ p.length ∧ p.length ≤ 64 ∧ p.phase < p.length) && d.action.ok

/-- An entry is in range, and an EMPTY one holds the cleared values (R131, R133). -/
def Entry.ok (e : Entry) : Bool :=
  decide (e.generation ≤ 255 ∧ e.fireCount ≤ 65535 ∧ e.missCount ≤ 255) && e.defn.ok &&
  (e.state != .empty || e == Entry.cleared e.generation)

/-- The schedule table: 40 entries, each in range (R131). -/
def State.scheduleOk (s : State) : Bool := s.schedule.length == Config.entryCount && s.schedule.all (·.ok)

/-! ### Line Engine -/

/-- The line configuration is in the ranges of Table 3-6. -/
def LineConfig.ok (c : LineConfig) : Bool :=
  decide (1 ≤ c.readyTimeoutMs ∧ c.readyTimeoutMs ≤ 255 ∧ 1 ≤ c.replyWindowMs ∧ c.replyWindowMs ≤ 255 ∧
    100 ≤ c.lineStuckMs ∧ c.lineStuckMs ≤ 5000 ∧ c.lineStuckMs % 100 = 0 ∧
    10 ≤ c.busyBackoffMs ∧ c.busyBackoffMs ≤ 2550 ∧ c.busyBackoffMs % 10 = 0 ∧
    1 ≤ c.holdTimeoutS ∧ c.holdTimeoutS ≤ 60 ∧ 1 ≤ c.failureThreshold ∧ c.failureThreshold ≤ 15 ∧
    10 ≤ c.pollHoldoffMs ∧ c.pollHoldoffMs ≤ 2550 ∧ c.pollHoldoffMs % 10 = 0 ∧
    1 ≤ c.phantomLimit ∧ c.phantomLimit ≤ 15)

/-- The line counters stay within 16 bits (R62). -/
def LineCounters.ok (c : LineCounters) : Bool :=
  [c.exchanges, c.retries, c.noReady, c.noReply, c.checkError, c.nacks, c.nestedQueries, c.lineFaults, c.holdTimeouts,
    c.phantomCycles].all (· ≤ 65535)

/-- The station a piece of work is current to (R43). -/
def Work.station? : Work → Option Nat
  | .transaction t => t.spec.dest.station?
  | .poll n => some n

/-- The origin a referral of a piece of work has (R84). -/
def Work.origin : Work → ReferralOrigin
  | .transaction t => .ticket t.ticket
  | .poll _ => .poll

/-- Attempts begun of a piece of work that has used the line: none for a poll, at most one more than the retry limit for a
transaction (R48, R49). -/
def Work.attemptsOk (attempts : Nat) : Work → Bool
  | .transaction t => decide (1 ≤ attempts ∧ attempts ≤ t.spec.retryLimit + 1)
  | .poll _ => attempts == 0

/-- The bytes received so far are a part of one reply (R31, R32). -/
def Exchange.replyOk (x : Exchange) : Bool :=
  match x.replySoFar with
  | [] => x.ready == none
  | head :: _ =>
    match replyHeadOf head with
    | some (_, count) => decide (x.replySoFar.length < count + 3)
    | none => false

/-- The fields of an exchange context agree with its phase (Table 2-3, R26 to R31). -/
def Exchange.phaseOk (x : Exchange) : Bool :=
  match x.phase with
  | .lineCheck => x.bytesSent == 0 && x.replySoFar.isEmpty && x.lineStuck.isSome && x.ready.isNone && x.turnHold.isNone &&
      x.replyWindow.isNone
  | .send => decide (x.bytesSent < x.frame.bytes.length) && x.replySoFar.isEmpty && x.lineStuck.isNone &&
      x.turnHold.isNone && x.replyWindow.isNone
  | .turn => x.replyExpected && x.bytesSent == x.frame.bytes.length && x.replySoFar.isEmpty && x.lineStuck.isNone &&
      x.ready.isNone && x.replyWindow.isSome
  | .receive => x.replyExpected && x.bytesSent == x.frame.bytes.length && x.lineStuck.isNone && x.turnHold.isNone &&
      x.replyWindow.isNone && x.replyOk

/-- The exchange is one of the current work, closed by the claim given (Table 2-4, R54). -/
def Exchange.kindOk (w : Work) (closing : Option Closing) (x : Exchange) : Bool :=
  match x.kind, w, closing with
  | .attempt, .transaction _, none => true
  | .poll, .poll _, none => true
  | .confirm, _, some c => c.closure == .answeredAccept
  | .deny, _, some c => c.closure == .answeredReject || c.closure == .cancelled || c.closure == .timeout
  | _, _, _ => false

/-- The engine holds no work: everything of a piece of work is absent (R44, R53, R56). -/
def LineEngine.empty (e : LineEngine) : Bool :=
  e.work.isNone && e.station.isNone && e.attempts == 0 && e.lastReply.isNone && e.wait.isNone && e.exchange.isNone &&
  e.referral.isNone && e.closing.isNone && !e.pausePending

/-- The engine runs work w in ACTIVE: an exchange, or a wait between two attempts (R44, R51). -/
def LineEngine.activeOk (e : LineEngine) (w : Work) : Bool :=
  e.referral.isNone && e.station == w.station? && w.attemptsOk e.attempts &&
  match e.exchange, e.wait with
  | some x, none =>
    x.kindOk w e.closing && x.phaseOk && x.replyExpected == (x.kind != .deny && e.station.isSome) &&
    (e.closing.isNone || e.station.isSome)
  | none, some _ =>
    e.closing.isNone &&
      match w with
      | .transaction t => decide (e.attempts ≤ t.spec.retryLimit)
      | .poll _ => false
  | _, _ => false

/-- The engine holds work w with its referral open (R45, R84, R87). -/
def LineEngine.heldOk (e : LineEngine) (w : Work) : Bool :=
  e.exchange.isNone && e.wait.isNone && e.closing.isNone && e.station == w.station? && w.attemptsOk e.attempts &&
  match e.referral with
  | some r => e.station == some r.station && r.origin == w.origin && decide (1 ≤ r.id ∧ r.id ≤ 255)
  | none => false

/-- The Line Engine record agrees with its state (R43 to R45, R56, R58). -/
def LineEngine.ok (e : LineEngine) : Bool :=
  e.config.ok && e.counters.ok && decide (1 ≤ e.nextReferralId ∧ e.nextReferralId ≤ 255) &&
  match e.state with
  | .idle => e.empty
  | .paused => e.empty
  | .fault => e.empty
  | .active => e.work.any e.activeOk
  | .held => e.work.any e.heldOk

/-! ### Station Table, Poll Unit, and what ties the line side together -/

/-- A station record against the failure threshold in force (R66, R74, R75). -/
def Station.ok (threshold : Nat) (r : Station) : Bool :=
  decide (r.failures ≤ threshold ∧ r.subUnits ≤ 15) && (r.state != .undefined || r == Station.cleared) &&
  (r.state != .silent || r.policy == .staySilent) && (r.state != .quarantined || r.policy == .quarantine) &&
  r.servicePending == r.lastStatus.any serviceFlag && (r.lastStatus.isSome || r.lastContact.isNone)

/-- The Station Table: 30 records in range, and the current station is in service (R66, R72). -/
def State.stationsOk (s : State) : Bool :=
  s.stations.length == Config.stationCount && s.stations.all (·.ok s.engine.config.failureThreshold) &&
  s.engine.station.all (fun n => decide (1 ≤ n ∧ n ≤ 30) && (s.stationAt n).inService)

/-- A cycle: its members are distinct stations in service; the in-flight one is presented or granted (R101, R104, R112). -/
def State.cycleOk (s : State) (c : Cycle) : Bool :=
  match c.inFlight with
  | none => false
  | some n =>
    decide (n :: c.remaining).Nodup &&
    (n :: c.remaining).all (fun m => decide (1 ≤ m ∧ m ≤ 30) && (s.stationAt m).inService) &&
    match c.request with
    | .none => false
    | .presented => s.poll.due == (s.engine.state == .idle) && !(s.engine.work == some (.poll n))
    | .granted => !s.poll.due && s.engine.work == some (.poll n)

/-- The Poll Unit record agrees with its state and the engine's (R101, R107, R108, R110). -/
def State.pollOk (s : State) : Bool :=
  decide (s.poll.pointer ≤ 30 ∧ s.poll.phantomCount ≤ 15) && (s.poll.state == .ignoring || decide (s.poll.phantomCount ≤ 14)) &&
  match s.poll.state with
  | .idle => s.poll.cycle.isNone && s.poll.holdoff.isNone && !s.poll.due
  | .ignoring => s.poll.cycle.isNone && s.poll.holdoff.isNone && !s.poll.due
  | .holdoff => s.poll.cycle.isNone && s.poll.holdoff.isSome && !s.poll.due
  | .cycling => s.poll.holdoff.isNone && s.engine.running && s.poll.cycle.any s.cycleOk

/-- A poll that runs is the one the Poll Unit has in flight (R101, R104). -/
def State.grantedOk (s : State) : Bool :=
  match s.engine.work with
  | some (.poll n) => s.poll.cycle.any (fun c => c.inFlight == some n && c.request == .granted)
  | _ => true

/-- An IDLE engine has no queued work (R46), and an IDLE Poll Unit that finds LATN held waits for the engine (R102). -/
def State.readyOk (s : State) : Bool :=
  (s.engine.state != .idle || s.queue.count == 0) &&
  (!s.vdd || s.poll.state != .idle || !s.latnHeld || !s.engine.running)

/-- Every transaction that waits or runs is in the ranges of Table 1-1. -/
def State.specsOk (s : State) : Bool :=
  s.queue.order.all (fun t => t.spec.ok) &&
  match s.engine.work with
  | some (.transaction t) => t.spec.ok
  | _ => true

/-- The line side as a whole: engine, stations, poll cycle, queue and schedule agree with one another. -/
def State.lineOk (s : State) : Bool :=
  s.engine.ok && s.scheduleOk && s.specsOk && s.stationsOk && s.pollOk && s.grantedOk && s.readyOk

end Sys2Proof.Machine
end

