-- ==== Sys2Proof/Certificates/Slice0/Obligations.lean ====
section
/-! DEFINITION. The statements about the HZ316: what each command does, what every step keeps, how records are encoded. -/

open Sys2Proof Sys2Proof.Machine

/-! ### The step, the state after reset, and what every step keeps -/

/-- A step runs the command at the front of the queue on the state with the queue's rest. On an empty queue the part idles;
that clause is the model's choice (log 6). -/
def Obligations.StepRunsFrontCommand : Prop :=
  (∀ (c : Instr) (s : State), step { s with pending := c :: s.pending } = exec c s) ∧
  (∀ s : State, s.pending = [] → step s = .next s)

/-- The state after reset is the one a COLD start leaves, on a part without power whose backup domain has kept nothing and
whose input pins rest at the levels the model chose (log 5). -/
def Obligations.ResetIsColdStart : Prop :=
  ∀ s : State, s.vdd = false → s.backupKept = false → s.rstnAsserted = false → s.latnHeld = false → s.hrdy = false →
    s.schedule.length = 40 → s.stations.length = 30 → s.choices = 0 → s.pending = [] →
    exec (.powerUp { lrdyHeld := false, hbr1 := false, hbr0 := false }) s = .next State.reset

/-- Every invariant stated below holds right after reset. -/
def Obligations.ResetHoldsInvariants : Prop :=
  State.reset.notices.ok = true ∧ State.reset.ticketsOk = true ∧ State.reset.linkOk = true ∧ State.reset.cal.ok = true ∧
  State.reset.engine.ok = true ∧ State.reset.lineOk = true

/-- Every step keeps the notice queue at 16 notices or fewer with consecutive numbers, its counts in range, and a lost count
above 0 only while the queue is full. -/
def Obligations.NoticesStayInOrder : Prop :=
  ∀ s t : State, s.notices.ok = true → step s = .next t → t.notices.ok = true

/-- Every step keeps the Dispatch Queue within 24 transactions and 20 of HOST origin, and the live tickets distinct and from
1 to 65535. -/
def Obligations.TicketsStayDistinct : Prop :=
  ∀ s t : State, s.ticketsOk = true → step s = .next t → t.ticketsOk = true

/-- Every step keeps the link's queues within 4 frames, its receiver whole, a frame waiting only behind a full reply queue,
and an idle transmitter that may send without anything to send. -/
def Obligations.LinkStaysServed : Prop :=
  ∀ s t : State, s.linkOk = true → step s = .next t → t.linkOk = true

/-- Every step keeps the calendar's counters in range, RUNNING only with OSC-STABLE, OSC-STABLE exactly in STABLE, the
settle timer exactly in STARTING, and the monitor's timer exactly outside LOST. -/
def Obligations.CalendarStaysInRange : Prop :=
  ∀ s t : State, s.cal.ok = true → step s = .next t → t.cal.ok = true

/-- Every step keeps the Line Engine record in agreement with its state: no work outside ACTIVE and HELD, a referral exactly
in HELD, an exchange or a wait in ACTIVE, pause pending only in ACTIVE and HELD. -/
def Obligations.EngineRecordStaysWhole : Prop :=
  ∀ s t : State, s.engine.ok = true → step s = .next t → t.engine.ok = true

/-- Every step keeps the line side as a whole: the current station in service, the members of a cycle distinct and in service,
the granted poll the engine's work, an IDLE engine without queued work, an IDLE Poll Unit without attention unserved. -/
def Obligations.LineSideStaysConsistent : Prop :=
  ∀ s t : State, s.lineOk = true → step s = .next t → t.lineOk = true

/-! ### Encodings -/

/-- The records that requests carry decode to what was encoded, for every value in range, and so does every request code. -/
def Obligations.EncodedRecordsDecode : Prop :=
  (∀ t : TxnSpec, t.ok = true → txnSpecOf t.bytes = some t) ∧
  (∀ d : EntryDef, d.ok = true → entryDefOf d.bytes = some d) ∧
  (∀ c : LineConfig, c.ok = true → lineConfigOf c.bytes = some c) ∧
  (∀ k : RequestKind, RequestKind.ofCode k.code = some k)

/-- A host link frame of a payload begins with C3h and the length, and everything after the sync byte sums to 0 modulo 256;
a line frame is destination byte, sub-unit byte if one is given, command, argument count, arguments and the check that combines
all of them by XOR from 5Ah; with the check they combine to 0. On the station line a frame is its start mark and then its bytes,
each as eight bits, least significant first; on the host link a byte is a low start bit, its bits in the same order and a high
stop bit. Eight samples in that order give the byte back. -/
def Obligations.ChecksCloseFrames : Prop :=
  (∀ payload : List Byte, ∃ check : Byte, linkFrame payload = 0xC3#8 :: byte payload.length :: (payload ++ [check]) ∧
    byte payload.length + payload.sum + check = 0#8) ∧
  (∀ (d : Destination) (u : Option Nat) (command : Byte) (args : List Byte),
    ((LineFrame.build d u command args).bytes.foldl (· ^^^ ·) 0x5A#8) = 0#8) ∧
  (∀ (u : Option Nat) (command : Byte) (args : List Byte),
    let subUnit := match u with
      | some x => [byte x]
      | none => []
    let bit7 := if u = none then 0 else 128
    let frame := fun (destination : Nat) =>
      let body := [byte (destination + bit7)] ++ subUnit ++ [command, byte args.length] ++ args
      body ++ [body.foldl (· ^^^ ·) 0x5A#8]
    (∀ n : Nat, 1 ≤ n → n ≤ 30 → (LineFrame.build (.station n) u command args).bytes = frame n) ∧
    (∀ g : Nat, g ≤ 7 → (LineFrame.build (.group g) u command args).bytes = frame (32 + g)) ∧
    (LineFrame.build .all u command args).bytes = frame 64) ∧
  (∀ b : Byte,
    let bits := [b.getLsbD 0, b.getLsbD 1, b.getLsbD 2, b.getLsbD 3, b.getLsbD 4, b.getLsbD 5, b.getLsbD 6, b.getLsbD 7]
    byteSignals b = bits.map LineSignal.bit ∧ character b = [false] ++ bits ++ [true] ∧ byteOfBits bits = b) ∧
  (∀ f : LineFrame, f.signals = .startMark :: f.bytes.flatMap byteSignals)

/-! ### Information requests and RESET-PART -/

/-- GET-INFO answers the fixed identity and capacities and the strapped rate, and changes nothing. -/
def Obligations.GetInfoReplies : Prop :=
  ∀ (s : State) (tag : Byte), LinkReady s →
    exec (.getInfo tag []) s =
      .next (answered 0x01#8 tag .ok
        [0x45#8, 0x01#8, 0x3C#8, 0x01#8, 24#8, 20#8, 40#8, 30#8, 16#8, 4#8, 4#8, s.link.rate.code] s)

/-- GET-STATUS answers the fields of Table 10-5 as the blocks stand, and changes nothing. -/
def Obligations.GetStatusReplies : Prop :=
  ∀ (s : State) (tag : Byte), LinkReady s →
    exec (.getStatus tag []) s =
      .next (answered 0x02#8 tag .ok
        [s.engine.state.code, boolByte s.engine.pausePending, byte (s.queue.urgent.length + s.queue.normal.length),
          byte ((s.queue.urgent ++ s.queue.normal).countP (fun t => t.origin == .host)),
          (match s.engine.referral with
            | some r => byte r.id
            | none => 0x00#8),
          s.poll.state.code,
          byte ((if s.cal.running then 1 else 0) + (if s.cal.timeValid then 2 else 0) + (if s.cal.oscStable then 4 else 0)),
          byte s.notices.queue.length, byte s.notices.lostCount, s.notices.mode.code, s.notices.lastStart.code] s)

/-- GET-STATS answers the fifteen counters and, with the clear flag 1, sets each to 0 in the same request; a flag other than
0 and 1 gives BAD-ARG and changes nothing. -/
def Obligations.GetStatsReplies : Prop :=
  ∀ (s : State) (tag flag : Byte), LinkReady s →
    let counters := [s.link.counters.stray, s.link.counters.gap, s.link.counters.length, s.link.counters.check,
      s.link.counters.overflow, s.engine.counters.exchanges, s.engine.counters.retries, s.engine.counters.noReady,
      s.engine.counters.noReply, s.engine.counters.checkError, s.engine.counters.nacks, s.engine.counters.nestedQueries,
      s.engine.counters.lineFaults, s.engine.counters.holdTimeouts, s.engine.counters.phantomCycles]
    (flag = 0#8 → exec (.getStats tag [flag]) s = .next (answered 0x03#8 tag .ok (counters.flatMap bytes16) s)) ∧
    (flag = 1#8 → exec (.getStats tag [flag]) s =
      .next (answered 0x03#8 tag .ok (counters.flatMap bytes16)
        { s with
          link := { s.link with counters := { stray := 0, gap := 0, length := 0, check := 0, overflow := 0 } },
          engine := { s.engine with counters :=
            { exchanges := 0, retries := 0, noReady := 0, noReply := 0, checkError := 0, nacks := 0, nestedQueries := 0,
              lineFaults := 0, holdTimeouts := 0, phantomCycles := 0 } } })) ∧
    (1 < flag.toNat → exec (.getStats tag [flag]) s = .next (answered 0x03#8 tag .badArg [] s))

/-- RESET-PART with scope SOFT or CLEAR makes that start and answers OK with the scope in the queue the start emptied; any
other scope gives BAD-ARG and no start. -/
def Obligations.ResetPartStarts : Prop :=
  ∀ (s : State) (tag scope : Byte) (pins : Pins), LinkReady s →
    (scope = 0#8 → exec (.resetPart tag [scope] pins) s =
      .next (answered 0x04#8 tag .ok [0x00#8] (start .soft (withPins pins s)))) ∧
    (scope = 1#8 → exec (.resetPart tag [scope] pins) s =
      .next (answered 0x04#8 tag .ok [0x01#8] (start .clear (withPins pins s)))) ∧
    (1 < scope.toNat → exec (.resetPart tag [scope] pins) s = .next (answered 0x04#8 tag .badArg [] (withPins pins s)))

/-- What a start leaves with LATN released: the one START notice with number 0, the queue empty with ticket counter 1, the
engine and the Poll Unit at their initial values, configuration, counters, definitions and delivery mode kept at PIN and SOFT
alone, entries emptied at COLD, WARM and CLEAR, the calendar touched at COLD alone, the link's queues empty and its rate from
the straps, second boundaries on their way discarded at COLD and WARM and kept otherwise (R130), supplies, pins and waiting
commands untouched. That completion records on their way are discarded (reports) is the model's choice (log 10). With LATN held
the same, and then the first cycle of the Poll Unit. -/
def Obligations.StartLeavesInitialValues : Prop :=
  (∀ (k : StartKind) (s : State), s.latnHeld = false →
    let t := start k s
    (t.notices.queue = [{
        seq := 0, timestamp := t.cal.stamp, transmitted := false,
        body := .start k t.cal.running t.cal.timeValid t.cal.oscStable }] ∧
      t.notices.seqCounter = 1 ∧ t.notices.lostCount = 0 ∧ t.notices.credit = 0 ∧ t.notices.lastStart = k ∧
      t.notices.mode = (if k = .pin ∨ k = .soft then s.notices.mode else .push) ∧
      t.notices.attnEnable = (if k = .pin ∨ k = .soft then s.notices.attnEnable else true)) ∧
    (t.queue = { urgent := [], normal := [], ticketCounter := 1 } ∧ t.reports = [] ∧
      t.boundaries = if k = .cold ∨ k = .warm then [] else s.boundaries) ∧
    (t.vdd = s.vdd ∧ t.backupKept = s.backupKept ∧ t.rstnAsserted = s.rstnAsserted ∧ t.latnHeld = s.latnHeld ∧
      t.lrdyHeld = s.lrdyHeld ∧ t.hrdy = s.hrdy ∧ t.hbr1 = s.hbr1 ∧ t.hbr0 = s.hbr0 ∧ t.choices = s.choices ∧
      t.pending = s.pending) ∧
    t.engine = { LineEngine.initial with
      config := if k = .pin ∨ k = .soft then s.engine.config else LineConfig.default,
      counters := if k = .pin ∨ k = .soft then s.engine.counters else LineCounters.zero } ∧
    t.poll = { state := .idle, pointer := 0, phantomCount := 0, cycle := none, holdoff := none, due := false } ∧
    t.cal = (if k = .cold then Calendar.cold else s.cal) ∧
    t.stations = s.stations.map (fun r =>
      if (k = .pin ∨ k = .soft) ∧ r.state ≠ .undefined then
        { r with state := .unknown, failures := 0, lastStatus := none, servicePending := false, lastContact := none }
      else Station.cleared) ∧
    t.schedule = s.schedule.map (fun e =>
      if k = .pin ∨ k = .soft then { e with liveTicket := none }
      else if k = .clear then Entry.cleared ((e.generation + 1) % 256)
      else Entry.cleared 0) ∧
    t.link = {
      framer := .hunt, expected := 0, assembly := [], gapTimer := none, intake := [], replies := [],
      sending := if k = .soft ∨ k = .clear then s.link.sending else none,
      rate := strapRate s.hbr1 s.hbr0,
      counters := if k = .pin ∨ k = .soft then s.link.counters else LinkCounters.zero }) ∧
  (∀ (k : StartKind) (s : State), s.latnHeld = true →
    start k s = pollTurn (pollBuild { start k { s with latnHeld := false } with latnHeld := true }))

/-! ### Calendar requests -/

/-- CAL-READ answers the five counters and the three flags and changes nothing. CAL-SET refuses an hour over 23, a minute or
second over 59 with BAD-ARG, then RUNNING with STATE; otherwise it writes the time, sets the fraction to 0 and TIME-VALID to
true, and changes nothing else. -/
def Obligations.CalReadSetAnswers : Prop :=
  ∀ (s : State) (tag : Byte), LinkReady s →
    (exec (.calRead tag []) s =
      .next (answered 0x10#8 tag .ok
        [byte (s.cal.day / 256), byte s.cal.day, byte s.cal.hour, byte s.cal.minute, byte s.cal.second, byte s.cal.fraction,
          byte ((if s.cal.running then 1 else 0) + (if s.cal.timeValid then 2 else 0) + (if s.cal.oscStable then 4 else 0))] s)) ∧
    ∀ hi lo h m c : Byte,
    ((23 < h.toNat ∨ 59 < m.toNat ∨ 59 < c.toNat) →
      exec (.calSet tag [hi, lo, h, m, c]) s = .next (answered 0x11#8 tag .badArg [] s)) ∧
    (h.toNat ≤ 23 → m.toNat ≤ 59 → c.toNat ≤ 59 → s.cal.running = true →
      exec (.calSet tag [hi, lo, h, m, c]) s = .next (answered 0x11#8 tag .state [] s)) ∧
    (h.toNat ≤ 23 → m.toNat ≤ 59 → c.toNat ≤ 59 → s.cal.running = false →
      exec (.calSet tag [hi, lo, h, m, c]) s =
        .next (answered 0x11#8 tag .ok [] { s with cal := { s.cal with
          day := 256 * hi.toNat + lo.toNat, hour := h.toNat, minute := m.toNat, second := c.toNat, fraction := 0,
          timeValid := true } }))

/-- CAL-CLEAR, CAL-RUN and CAL-STOP answer by the run state and OSC-STABLE and change the calendar record alone. -/
def Obligations.CalRunStopClearAnswers : Prop :=
  ∀ (s : State) (tag : Byte), LinkReady s →
    (s.cal.running = true → exec (.calClear tag []) s = .next (answered 0x14#8 tag .state [] s)) ∧
    (s.cal.running = false → exec (.calClear tag []) s =
      .next (answered 0x14#8 tag .ok []
        { s with cal := { s.cal with day := 0, hour := 0, minute := 0, second := 0, fraction := 0, timeValid := false } })) ∧
    (s.cal.running = true → exec (.calRun tag []) s = .next (answered 0x12#8 tag .ok [] s)) ∧
    (s.cal.running = false → s.cal.oscStable = true → exec (.calRun tag []) s =
      .next (answered 0x12#8 tag .ok [] { s with cal := { s.cal with running := true, divider := 0 } })) ∧
    (s.cal.running = false → s.cal.oscStable = false → exec (.calRun tag []) s =
      .next (answered 0x12#8 tag .notReady [] s)) ∧
    (s.cal.running = true → exec (.calStop tag []) s =
      .next (answered 0x13#8 tag .ok [] { s with cal := { s.cal with running := false, divider := 0 } })) ∧
    (s.cal.running = false → exec (.calStop tag []) s = .next (answered 0x13#8 tag .ok [] s))

/-! ### Schedule requests -/

/-- SCH-WRITE of a definition in range replaces the entry: definition and initial state from the request, generation up by 1,
counts 0, last fired and live ticket absent; the reply carries the new generation. It is refused with BAD-ARG for an index
over 39, an initial state not ARMED or DISABLED, a field out of range, an unknown action, or a sub-unit that does not fit a
defined station. The phase byte of a day ANY and the sub-unit byte of a transaction without one may hold any value. -/
def Obligations.SchWriteAnswers : Prop :=
  ∀ (s : State) (tag : Byte), LinkReady s →
    (∀ (i : Nat) (initial : EntryState) (d : EntryDef) (x ph : Byte), i < 40 → (initial = .armed ∨ initial = .disabled) → d.ok = true →
      let g := ((s.schedule.getD i (Entry.cleared 0)).generation + 1) % 256
      let body := byte i :: byte initial.code :: d.bytesWith x ph
      ((∀ (t : TxnSpec) (n : Nat), d.action = .transact t → t.dest = .station n → (s.stationAt n).state ≠ .undefined →
          (s.stationAt n).fits t.subUnit = true) →
        exec (.schWrite tag body) s =
          .next (answered 0x20#8 tag .ok [byte g] { s with
            schedule := s.schedule.set i {
              state := initial, generation := g, defn := d, fireCount := 0, missCount := 0, lastFired := none,
              liveTicket := none } })) ∧
      (∀ (t : TxnSpec) (n : Nat), d.action = .transact t → t.dest = .station n → (s.stationAt n).state ≠ .undefined →
          (s.stationAt n).fits t.subUnit = false →
        exec (.schWrite tag body) s = .next (answered 0x20#8 tag .badArg [] s))) ∧
    (∀ (index initial sec min hr len ph rep ov rpt act : Byte) (rest : List Byte),
      bodyFits .schWrite (index :: initial :: sec :: min :: hr :: len :: ph :: rep :: ov :: rpt :: act :: rest) = true →
      (39 < index.toNat ∨ initial.toNat < 1 ∨ 2 < initial.toNat ∨ badEntryFields sec min hr len ph rep ov rpt = true ∨
        1 < act.toNat) →
      exec (.schWrite tag (index :: initial :: sec :: min :: hr :: len :: ph :: rep :: ov :: rpt :: act :: rest)) s =
        .next (answered 0x20#8 tag .badArg [] s)) ∧
    (∀ (index initial sec min hr len ph rep ov rpt cls dest sub command retry count : Byte) (args : List Byte),
      bodyFits .schWrite (index :: initial :: sec :: min :: hr :: len :: ph :: rep :: ov :: rpt :: 0x01#8 ::
        cls :: dest :: sub :: command :: retry :: count :: args) = true →
      badTxnFields cls dest sub command retry count = true →
      exec (.schWrite tag (index :: initial :: sec :: min :: hr :: len :: ph :: rep :: ov :: rpt :: 0x01#8 ::
        cls :: dest :: sub :: command :: retry :: count :: args)) s = .next (answered 0x20#8 tag .badArg [] s))

/-- SCH-READ answers every field of the entry, and BAD-ARG for an index over 39; SCH-LIST answers the states four to a byte
and then the forty generations. Neither changes anything. -/
def Obligations.SchReadListReplies : Prop :=
  ∀ (s : State) (tag : Byte), LinkReady s →
    (∀ index : Byte, index.toNat ≤ 39 →
      let e := s.schedule.getD index.toNat (Entry.cleared 0)
      exec (.schRead tag [index]) s =
        .next (answered 0x21#8 tag .ok
          ([byte e.state.code, byte e.generation] ++ e.defn.bytes ++ bytes16 e.fireCount ++ [byte e.missCount] ++
            (match e.lastFired with
              | some t => [0x01#8] ++ bytes16 t.day ++ [byte t.hour, byte t.minute, byte t.second, byte t.fraction]
              | none => List.replicate 7 0x00#8) ++
            (match e.liveTicket with
              | some t => bytes16 t
              | none => [0x00#8, 0x00#8])) s)) ∧
    (∀ index : Byte, 39 < index.toNat → exec (.schRead tag [index]) s = .next (answered 0x21#8 tag .badArg [] s)) ∧
    (s.schedule.length = 40 → ∃ data : List Byte,
      exec (.schList tag []) s = .next (answered 0x25#8 tag .ok data s) ∧ data.length = 50 ∧
      (∀ i < 40, data.getD (10 + i) 0#8 = byte (s.schedule.getD i (Entry.cleared 0)).generation) ∧
      (∀ k < 10, ∀ j < 4, (data.getD k 0#8).toNat / 4 ^ j % 4 =
        (s.schedule.getD (4 * k + j) (Entry.cleared 0)).state.code))

/-- SCH-ENABLE and SCH-DISABLE answer by the entry's state, change the state alone, and refuse an EMPTY entry with NOT-FOUND
and an index over 39 with BAD-ARG. -/
def Obligations.SchEnableDisableAnswers : Prop :=
  ∀ (s : State) (tag index : Byte), LinkReady s →
    let e := s.schedule.getD index.toNat (Entry.cleared 0)
    let armed := { s with schedule := s.schedule.set index.toNat { e with state := .armed } }
    let disabled := { s with schedule := s.schedule.set index.toNat { e with state := .disabled } }
    (39 < index.toNat → exec (.schEnable tag [index]) s = .next (answered 0x22#8 tag .badArg [] s) ∧
      exec (.schDisable tag [index]) s = .next (answered 0x23#8 tag .badArg [] s)) ∧
    (index.toNat ≤ 39 → e.state = .empty → exec (.schEnable tag [index]) s = .next (answered 0x22#8 tag .notFound [] s) ∧
      exec (.schDisable tag [index]) s = .next (answered 0x23#8 tag .notFound [] s)) ∧
    (index.toNat ≤ 39 → e.state = .armed → exec (.schEnable tag [index]) s = .next (answered 0x22#8 tag .ok [] s) ∧
      exec (.schDisable tag [index]) s = .next (answered 0x23#8 tag .ok [] disabled)) ∧
    (index.toNat ≤ 39 → e.state = .disabled → exec (.schEnable tag [index]) s = .next (answered 0x22#8 tag .ok [] armed) ∧
      exec (.schDisable tag [index]) s = .next (answered 0x23#8 tag .ok [] s)) ∧
    (index.toNat ≤ 39 → e.state = .spent → exec (.schEnable tag [index]) s = .next (answered 0x22#8 tag .ok [] armed) ∧
      exec (.schDisable tag [index]) s = .next (answered 0x23#8 tag .ok [] disabled))

/-- SCH-DELETE empties the entry with its generation up by 1 and answers it; BAD-ARG for an index over 39, NOT-FOUND for an
EMPTY entry. -/
def Obligations.SchDeleteAnswers : Prop :=
  ∀ (s : State) (tag index : Byte), LinkReady s →
    let e := s.schedule.getD index.toNat (Entry.cleared 0)
    let g := (e.generation + 1) % 256
    (39 < index.toNat → exec (.schDelete tag [index]) s = .next (answered 0x24#8 tag .badArg [] s)) ∧
    (index.toNat ≤ 39 → e.state = .empty → exec (.schDelete tag [index]) s = .next (answered 0x24#8 tag .notFound [] s)) ∧
    (index.toNat ≤ 39 → e.state ≠ .empty → exec (.schDelete tag [index]) s =
      .next (answered 0x24#8 tag .ok [byte g] { s with
        schedule := s.schedule.set index.toNat {
          state := .empty, generation := g, fireCount := 0, missCount := 0, lastFired := none, liveTicket := none,
          defn := {
            second := 0, minute := none, hour := none, day := none, repeats := false, overlap := .skip,
            report := .none, action := .notify 0x00#8 } } }))

/-! ### Station requests -/

/-- STN-DEFINE of an UNDEFINED station writes its definition, makes it UNKNOWN with cleared health and raises STATION-STATE; a
field out of range gives BAD-ARG, then a defined station gives STATE. -/
def Obligations.StnDefineAnswers : Prop :=
  ∀ (s : State) (tag n u g p q : Byte), LinkReady s →
    ((n.toNat < 1 ∨ 30 < n.toNat ∨ 15 < u.toNat ∨ 1 < p.toNat ∨ 1 < q.toNat) →
      exec (.stnDefine tag [n, u, g, p, q]) s = .next (answered 0x30#8 tag .badArg [] s)) ∧
    (1 ≤ n.toNat → n.toNat ≤ 30 → u.toNat ≤ 15 → p.toNat ≤ 1 → q.toNat ≤ 1 → (s.stationAt n.toNat).state ≠ .undefined →
      exec (.stnDefine tag [n, u, g, p, q]) s = .next (answered 0x30#8 tag .state [] s)) ∧
    (1 ≤ n.toNat → n.toNat ≤ 30 → u.toNat ≤ 15 → p.toNat ≤ 1 → q.toNat ≤ 1 → (s.stationAt n.toNat).state = .undefined →
      exec (.stnDefine tag [n, u, g, p, q]) s =
        .next (answered 0x30#8 tag .ok [] (raise (.stationState n.toNat .undefined .unknown)
          { s with
            stations := s.stations.set (n.toNat - 1) {
              state := .unknown, subUnits := u.toNat, groups := g, pollable := p == 1#8,
              policy := if q = 0#8 then .quarantine else .staySilent,
              failures := 0, lastStatus := none, servicePending := false, lastContact := none } })))

/-- STN-READ answers every field of the record, UNDEFINED or not, and changes nothing. STN-RESTORE of a QUARANTINED station
makes it UNKNOWN with failure count 0, keeps the rest and raises STATION-STATE; any other state gives STATE. A number outside
1 to 30 gives both BAD-ARG. -/
def Obligations.StnReadRestoreAnswers : Prop :=
  ∀ (s : State) (tag n : Byte), LinkReady s →
    ((n.toNat < 1 ∨ 30 < n.toNat) → exec (.stnRead tag [n]) s = .next (answered 0x31#8 tag .badArg [] s)) ∧
    (1 ≤ n.toNat → n.toNat ≤ 30 →
      let r := s.stations.getD (n.toNat - 1) Station.cleared
      exec (.stnRead tag [n]) s =
        .next (answered 0x31#8 tag .ok
          ([n, r.state.code, byte r.subUnits, r.groups, boolByte r.pollable, r.policy.code, byte r.failures] ++
            (match r.lastStatus with
              | some b => [0x01#8, b]
              | none => [0x00#8, 0x00#8]) ++
            [boolByte r.servicePending] ++
            (match r.lastContact with
              | some t => [0x01#8] ++ bytes16 t.day ++ [byte t.hour, byte t.minute, byte t.second, byte t.fraction]
              | none => List.replicate 7 0x00#8)) s)) ∧
    ((n.toNat < 1 ∨ 30 < n.toNat) → exec (.stnRestore tag [n]) s = .next (answered 0x33#8 tag .badArg [] s)) ∧
    (1 ≤ n.toNat → n.toNat ≤ 30 → (s.stationAt n.toNat).state ≠ .quarantined →
      exec (.stnRestore tag [n]) s = .next (answered 0x33#8 tag .state [] s)) ∧
    (1 ≤ n.toNat → n.toNat ≤ 30 → (s.stationAt n.toNat).state = .quarantined →
      exec (.stnRestore tag [n]) s =
        .next (answered 0x33#8 tag .ok [] (raise (.stationState n.toNat .quarantined .unknown)
          { s with
            stations := s.stations.set (n.toNat - 1) { s.stationAt n.toNat with state := .unknown, failures := 0 } })))

/-- STN-FORGET of a defined station that is not current clears its record, raises STATION-STATE and tells the Poll Unit;
BAD-ARG outside 1 to 30, then NOT-FOUND for UNDEFINED, then BUSY for the current station. Where the Poll Unit's turn raises
ATTENTION-STUCK, that it comes behind the STATION-STATE is the model's choice (log 15). -/
def Obligations.StnForgetAnswers : Prop :=
  ∀ (s : State) (tag n : Byte), LinkReady s →
    ((n.toNat < 1 ∨ 30 < n.toNat) → exec (.stnForget tag [n]) s = .next (answered 0x32#8 tag .badArg [] s)) ∧
    (1 ≤ n.toNat → n.toNat ≤ 30 → (s.stationAt n.toNat).state = .undefined →
      exec (.stnForget tag [n]) s = .next (answered 0x32#8 tag .notFound [] s)) ∧
    (1 ≤ n.toNat → n.toNat ≤ 30 → (s.stationAt n.toNat).state ≠ .undefined → s.engine.station = some n.toNat →
      exec (.stnForget tag [n]) s = .next (answered 0x32#8 tag .busy [] s)) ∧
    (1 ≤ n.toNat → n.toNat ≤ 30 → (s.stationAt n.toNat).state ≠ .undefined → s.engine.station ≠ some n.toNat →
      let s1 := raise (.stationState n.toNat (s.stationAt n.toNat).state .undefined)
        { s with stations := s.stations.set (n.toNat - 1) Station.cleared }
      (s.poll.cycle = none → exec (.stnForget tag [n]) s = .next (answered 0x32#8 tag .ok [] s1)) ∧
      (∀ c : Cycle, s.poll.cycle = some c → (c.inFlight ≠ some n.toNat ∨ c.request ≠ .presented) →
        exec (.stnForget tag [n]) s = .next (answered 0x32#8 tag .ok []
          { s1 with poll := { s1.poll with cycle := some { c with remaining := c.remaining.filter (· != n.toNat) } } })) ∧
      (∀ c : Cycle, s.poll.cycle = some c → c.inFlight = some n.toNat → c.request = .presented →
        exec (.stnForget tag [n]) s = .next (answered 0x32#8 tag .ok []
          (pollTurn { s1 with poll := { s1.poll with
            cycle := some { c with inFlight := none, request := .none }, due := false } }))))

/-! ### Requests on the Dispatch Queue and the Line Engine -/

/-- An admission of either origin gives the counter's value, stepped past every live ticket; the value is given to no live
transaction, and the counter then advances by 1 with 65535 wrapping to 1. The counter is 1 after every start. -/
def Obligations.TicketSkipsLive : Prop :=
  (∀ s : State, s.ticketsOk = true →
    s.ticketToGive ∉ s.liveTickets ∧ 1 ≤ s.ticketToGive ∧ s.ticketToGive ≤ 65535 ∧
    ∃ k ≤ 25, s.ticketToGive = nextTicket^[k] s.queue.ticketCounter ∧
      ∀ j < k, nextTicket^[j] s.queue.ticketCounter ∈ s.liveTickets) ∧
  (∀ (s : State) (o : Origin) (t : TxnSpec),
    (admission o t s).queue.ticketCounter = nextTicket s.ticketToGive ∧
    ∃ r ∈ (admission o t s).queue.order, r.ticket = s.ticketToGive ∧ r.origin = o ∧ r.spec = t) ∧
  (∀ (k : StartKind) (s : State), (start k s).queue.ticketCounter = 1) ∧
  (∀ t : Nat, t < 65535 → nextTicket t = t + 1) ∧ nextTicket 65535 = 1

/-- BUS-SEND of a transaction in range, to a destination that the table accepts, with room in the queue, places the record
behind the last of its class and answers its ticket and position; the grant decision that the admission brings follows. The
sub-unit byte of a transaction without a sub-unit may hold any value. -/
def Obligations.BusSendAdmits : Prop :=
  ∀ (s : State) (tag x : Byte) (held : Bool) (t : TxnSpec), LinkReady s → t.ok = true →
    (∀ n : Nat, t.dest = .station n → (s.stationAt n).state ≠ .undefined ∧ (s.stationAt n).fits t.subUnit = true) →
    s.queue.count < 24 → s.queue.hostCount < 20 →
    let r : Transaction := {
      ticket := s.ticketToGive, origin := .host, spec := t,
      admitted := if s.cal.timeValid then some s.cal.counters else none }
    (t.cls = .urgent → exec (.busSend tag (t.bytesWith x) held) s =
      .next (answered 0x38#8 tag .ok (bytes16 s.ticketToGive ++ [byte (s.queue.urgent.length + 1)])
        (decideGrant { s with lrdyHeld := held, queue := { s.queue with
          urgent := s.queue.urgent ++ [r], ticketCounter := nextTicket s.ticketToGive } }))) ∧
    (t.cls = .normal → exec (.busSend tag (t.bytesWith x) held) s =
      .next (answered 0x38#8 tag .ok
        (bytes16 s.ticketToGive ++ [byte (s.queue.urgent.length + s.queue.normal.length + 1)])
        (decideGrant { s with lrdyHeld := held, queue := { s.queue with
          normal := s.queue.normal ++ [r], ticketCounter := nextTicket s.ticketToGive } })))

/-- The refusals of BUS-SEND in their order: a field out of range BAD-ARG, an UNDEFINED station NOT-FOUND, a sub-unit that
does not fit BAD-ARG, a queue with 24 transactions or 20 of HOST origin FULL; a refusal changes nothing. The sub-unit byte of a
transaction without a sub-unit may hold any value. -/
def Obligations.BusSendRefuses : Prop :=
  ∀ (s : State) (tag x : Byte) (held : Bool), LinkReady s →
    (∀ (cls dest sub command retry count : Byte) (args : List Byte),
      bodyFits .busSend (cls :: dest :: sub :: command :: retry :: count :: args) = true →
      badTxnFields cls dest sub command retry count = true →
      exec (.busSend tag (cls :: dest :: sub :: command :: retry :: count :: args) held) s =
        .next (answered 0x38#8 tag .badArg [] (withLrdy held s))) ∧
    (∀ (t : TxnSpec) (n : Nat), t.ok = true → t.dest = .station n → (s.stationAt n).state = .undefined →
      exec (.busSend tag (t.bytesWith x) held) s = .next (answered 0x38#8 tag .notFound [] (withLrdy held s))) ∧
    (∀ (t : TxnSpec) (n : Nat), t.ok = true → t.dest = .station n → (s.stationAt n).state ≠ .undefined →
      (s.stationAt n).fits t.subUnit = false →
      exec (.busSend tag (t.bytesWith x) held) s = .next (answered 0x38#8 tag .badArg [] (withLrdy held s))) ∧
    (∀ t : TxnSpec, t.ok = true →
      (∀ n : Nat, t.dest = .station n → (s.stationAt n).state ≠ .undefined ∧ (s.stationAt n).fits t.subUnit = true) →
      (24 ≤ s.queue.count ∨ 20 ≤ s.queue.hostCount) →
      exec (.busSend tag (t.bytesWith x) held) s = .next (answered 0x38#8 tag .full [] (withLrdy held s)))

/-- BUS-CANCEL: a queued transaction leaves and completes CANCELLED with attempts 0; the held one's referral closes with
CANCELLED; ticket 0 gives BAD-ARG, the running transaction BUSY, any other ticket NOT-FOUND, each without a change. -/
def Obligations.BusCancelAnswers : Prop :=
  ∀ (s : State) (tag hi lo : Byte) (held : Bool), LinkReady s →
    let k := 256 * hi.toNat + lo.toNat
    let s1 := withLrdy held s
    (k = 0 → exec (.busCancel tag [hi, lo] held) s = .next (answered 0x39#8 tag .badArg [] s1)) ∧
    (∀ t : Transaction, k ≠ 0 → s.queue.find k = some t →
      exec (.busCancel tag [hi, lo] held) s =
        .next (answered 0x39#8 tag .ok [] (handCompletion
          { ticket := k, origin := t.origin, outcome := .cancelled, reply := none, attempts := 0, admitted := t.admitted }
          { s1 with queue := { s.queue with
              urgent := s.queue.urgent.filter (fun u => u.ticket != k),
              normal := s.queue.normal.filter (fun u => u.ticket != k) } }))) ∧
    (∀ r : Referral, k ≠ 0 → s.queue.find k = none → s.engine.ticket = some k → s.engine.referral = some r →
      exec (.busCancel tag [hi, lo] held) s = .next (answered 0x39#8 tag .ok [] (closeReferral r .cancelled [] s1))) ∧
    (k ≠ 0 → s.queue.find k = none → s.engine.ticket = some k → s.engine.referral = none →
      exec (.busCancel tag [hi, lo] held) s = .next (answered 0x39#8 tag .busy [] s1)) ∧
    (k ≠ 0 → s.queue.find k = none → s.engine.ticket ≠ some k →
      exec (.busCancel tag [hi, lo] held) s = .next (answered 0x39#8 tag .notFound [] s1))

/-- BUS-PAUSE by engine state: IDLE enters PAUSED with BUS-STATE and an abandoned cycle; ACTIVE and HELD set pause pending;
PAUSED changes nothing; FAULT is refused with STATE. -/
def Obligations.BusPauseAnswers : Prop :=
  ∀ (s : State) (tag : Byte), LinkReady s →
    (s.engine.state = .idle →
      let s1 := raise (.busState .paused) { s with engine := { s.engine with state := .paused, pausePending := false } }
      exec (.busPause tag []) s = .next (answered 0x3A#8 tag .ok []
        (if s.poll.state = .cycling then { s1 with poll := { s.poll with state := .idle, cycle := none, due := false } }
         else s1))) ∧
    ((s.engine.state = .active ∨ s.engine.state = .held) → exec (.busPause tag []) s =
      .next (answered 0x3A#8 tag .ok [] { s with engine := { s.engine with pausePending := true } })) ∧
    (s.engine.state = .paused → exec (.busPause tag []) s = .next (answered 0x3A#8 tag .ok [] s)) ∧
    (s.engine.state = .fault → exec (.busPause tag []) s = .next (answered 0x3A#8 tag .state [] s))

/-- BUS-RESUME by engine state. Where the Poll Unit has no cycle to begin, PAUSED and a FAULT with LRDY released lead to IDLE
and the grant decision; where it has, the presentation of its request comes before or after that decision, and the model
leaves the order free (log 7): presented after it, the request is granted at the next grant, in the same step where the head
taken completes at its take. That RESUMED comes ahead of an ATTENTION-STUCK of the same resume is the model's choice (log 15). -/
def Obligations.BusResumeAnswers : Prop :=
  ∀ (s : State) (tag : Byte) (held : Bool), LinkReady s →
    let s1 := withLrdy held s
    let idle := { s1 with engine := { s1.engine with state := .idle } }
    let resumed := raise (.busState .resumed) s1
    let resumedIdle := { resumed with engine := { resumed.engine with state := .idle } }
    let decided := fun (u : State) => decideGrant { u with poll := { u.poll with due := false } }
    let decidedFirst := fun (u : State) =>
      if (grantOnce u).2 then decided (pollTest (grantOnce u).1) else pollTest (grantOnce u).1
    (s.engine.state = .idle → exec (.busResume tag [] held) s = .next (answered 0x3B#8 tag .ok [] s1)) ∧
    ((s.engine.state = .active ∨ s.engine.state = .held) → exec (.busResume tag [] held) s =
      .next (answered 0x3B#8 tag .ok [] { s1 with engine := { s1.engine with pausePending := false } })) ∧
    (s.engine.state = .fault → held = true → exec (.busResume tag [] held) s =
      .next (answered 0x3B#8 tag .state [] s1)) ∧
    ((s.poll.state ≠ .idle ∨ s.latnHeld = false) →
      (s.engine.state = .paused → exec (.busResume tag [] held) s =
        .next (answered 0x3B#8 tag .ok [] (decideGrant idle))) ∧
      (s.engine.state = .fault → held = false → exec (.busResume tag [] held) s =
        .next (answered 0x3B#8 tag .ok [] (decideGrant resumedIdle)))) ∧
    (s.poll.state = .idle → s.latnHeld = true →
      (s.engine.state = .paused → ∃ t : State,
        (let c := { idle with choices := s.choices + 1 }
         t = decidedFirst c ∨ t = decided (pollTest c)) ∧
        exec (.busResume tag [] held) s = .next (answered 0x3B#8 tag .ok [] t)) ∧
      (s.engine.state = .fault → held = false → ∃ t : State,
        (let c := { resumedIdle with choices := s.choices + 1 }
         t = decidedFirst c ∨ t = decided (pollTest c)) ∧
        exec (.busResume tag [] held) s = .next (answered 0x3B#8 tag .ok [] t)))

/-- LINE-CONFIG replaces the nine fields in PAUSED and FAULT and sets every failure count to 0; in IDLE, ACTIVE and HELD it is
refused with STATE, and out of range with BAD-ARG. CONFIG-READ answers the nine fields and changes nothing. -/
def Obligations.LineConfigAnswers : Prop :=
  ∀ (s : State) (tag : Byte), LinkReady s →
    (∀ body : List Byte, body.length = 9 → (s.engine.state = .idle ∨ s.engine.state = .active ∨ s.engine.state = .held) →
      exec (.lineConfig tag body) s = .next (answered 0x3C#8 tag .state [] s)) ∧
    (∀ a b c d e f g h i : Byte, (s.engine.state = .paused ∨ s.engine.state = .fault) →
      (3 < a.toNat ∨ b.toNat < 1 ∨ c.toNat < 1 ∨ d.toNat < 1 ∨ 50 < d.toNat ∨ e.toNat < 1 ∨ f.toNat < 1 ∨ 60 < f.toNat ∨
        g.toNat < 1 ∨ 15 < g.toNat ∨ h.toNat < 1 ∨ i.toNat < 1 ∨ 15 < i.toNat) →
      exec (.lineConfig tag [a, b, c, d, e, f, g, h, i]) s = .next (answered 0x3C#8 tag .badArg [] s)) ∧
    (∀ c : LineConfig, c.ok = true → (s.engine.state = .paused ∨ s.engine.state = .fault) →
      exec (.lineConfig tag c.bytes) s = .next (answered 0x3C#8 tag .ok []
        { s with engine := { s.engine with config := c },
                 stations := s.stations.map (fun r => { r with failures := 0 }) })) ∧
    (let c := s.engine.config
     exec (.configRead tag []) s = .next (answered 0x3D#8 tag .ok
        [c.rate.code, byte c.readyTimeoutMs, byte c.replyWindowMs, byte (c.lineStuckMs / 100), byte (c.busyBackoffMs / 10),
          byte c.holdTimeoutS, byte c.failureThreshold, byte (c.pollHoldoffMs / 10), byte c.phantomLimit] s))

/-- REF-ANSWER with the open id closes the referral by its verdict, with the answer bytes for ACCEPT alone; id 0, a verdict
code over 1 or an answer count over 8 gives BAD-ARG, and any other id, or none open, STALE. -/
def Obligations.RefAnswerAnswers : Prop :=
  ∀ (s : State) (tag id v : Byte) (answer : List Byte) (held : Bool), LinkReady s → answer.length ≤ 61 →
    let body := id :: v :: byte answer.length :: answer
    let s1 := withLrdy held s
    ((id = 0#8 ∨ 1 < v.toNat ∨ 8 < answer.length) →
      exec (.refAnswer tag body held) s = .next (answered 0x3E#8 tag .badArg [] s1)) ∧
    (id ≠ 0#8 → v.toNat ≤ 1 → answer.length ≤ 8 → (∀ r : Referral, s.engine.referral = some r → r.id ≠ id.toNat) →
      exec (.refAnswer tag body held) s = .next (answered 0x3E#8 tag .stale [] s1)) ∧
    (∀ r : Referral, id ≠ 0#8 → answer.length ≤ 8 → s.engine.referral = some r → r.id = id.toNat →
      (v = 0#8 → exec (.refAnswer tag body held) s =
        .next (answered 0x3E#8 tag .ok [] (closeReferral r .answeredAccept answer s1))) ∧
      (v = 1#8 → exec (.refAnswer tag body held) s =
        .next (answered 0x3E#8 tag .ok [] (closeReferral r .answeredReject [] s1))))

/-! ### Requests on the Notice Unit -/

/-- A raised notice is appended untransmitted with the counter's number while fewer than 16 are held; with 16 held it is
dropped, takes no number, and the lost count rises by 1 up to 255. Nothing else changes. -/
def Obligations.RaisedNoticeAppends : Prop :=
  ∀ (s : State) (b : NoticeBody),
    (s.notices.queue.length < 16 → raise b s = { s with notices := { s.notices with
      queue := s.notices.queue ++ [{ seq := s.notices.seqCounter, body := b, transmitted := false,
                                     timestamp := if s.cal.timeValid then some s.cal.counters else none }],
      seqCounter := (s.notices.seqCounter + 1) % 256 } }) ∧
    (16 ≤ s.notices.queue.length → s.notices.lostCount < 255 → raise b s =
      { s with notices := { s.notices with lostCount := s.notices.lostCount + 1 } }) ∧
    (16 ≤ s.notices.queue.length → s.notices.lostCount = 255 → raise b s = s)

/-- NOTE-ACK of a held number removes the notices from the oldest through it and answers how many; with a lost count above 0
a NOTICE-LOST that carries it is appended in the same request and the count returns to 0. Another number gives NOT-FOUND. -/
def Obligations.NoteAckAnswers : Prop :=
  ∀ (s : State) (tag n : Byte), LinkReady s →
    ((∀ x ∈ s.notices.queue, x.seq ≠ n.toNat) → exec (.noteAck tag [n]) s = .next (answered 0x40#8 tag .notFound [] s)) ∧
    (∀ (old new : List Notice) (x : Notice), s.notices.queue = old ++ x :: new → x.seq = n.toNat →
      (∀ y ∈ old, y.seq ≠ n.toNat) → s.notices.queue.length ≤ 16 →
      (s.notices.lostCount = 0 → exec (.noteAck tag [n]) s =
        .next (answered 0x40#8 tag .ok [byte (old.length + 1)] { s with notices := { s.notices with queue := new } })) ∧
      (0 < s.notices.lostCount → exec (.noteAck tag [n]) s =
        .next (answered 0x40#8 tag .ok [byte (old.length + 1)] { s with notices := { s.notices with
          queue := new ++ [{ seq := s.notices.seqCounter, body := .noticeLost s.notices.lostCount, transmitted := false,
                             timestamp := if s.cal.timeValid then some s.cal.counters else none }],
          seqCounter := (s.notices.seqCounter + 1) % 256, lostCount := 0 } })))

/-- NOTE-FETCH sets the credit in PULL and answers the untransmitted notices; a count outside 1 to 16 gives BAD-ARG, PUSH
gives STATE. NOTE-REPLAY marks every held notice untransmitted and answers how many are held. -/
def Obligations.NoteFetchReplayAnswers : Prop :=
  ∀ (s : State) (tag n : Byte), LinkReady s →
    ((n.toNat < 1 ∨ 16 < n.toNat) → exec (.noteFetch tag [n]) s = .next (answered 0x41#8 tag .badArg [] s)) ∧
    (1 ≤ n.toNat → n.toNat ≤ 16 → s.notices.mode = .push →
      exec (.noteFetch tag [n]) s = .next (answered 0x41#8 tag .state [] s)) ∧
    (1 ≤ n.toNat → n.toNat ≤ 16 → s.notices.mode = .pull →
      exec (.noteFetch tag [n]) s =
        .next (answered 0x41#8 tag .ok [byte (s.notices.queue.countP (fun x => !x.transmitted))]
          { s with notices := { s.notices with credit := n.toNat } })) ∧
    exec (.noteReplay tag []) s =
      .next (answered 0x42#8 tag .ok [byte s.notices.queue.length] { s with notices := { s.notices with
        queue := s.notices.queue.map (fun x => { x with transmitted := false }) } })

/-- NOTE-CONFIG sets the delivery mode and the ATTN enable, clears the credit exactly when the mode changes, and refuses other
codes with BAD-ARG; ATTN follows the enable and the queue. -/
def Obligations.NoteConfigAnswers : Prop :=
  (∀ (s : State) (tag m e : Byte), LinkReady s →
    ((1 < m.toNat ∨ 1 < e.toNat) → exec (.noteConfig tag [m, e]) s = .next (answered 0x43#8 tag .badArg [] s)) ∧
    (∀ mode : DeliveryMode, m = mode.code → e.toNat ≤ 1 →
      exec (.noteConfig tag [m, e]) s = .next (answered 0x43#8 tag .ok [] { s with notices := { s.notices with
        mode := mode, attnEnable := e == 1#8, credit := if mode = s.notices.mode then s.notices.credit else 0 } }))) ∧
  (∀ s : State, s.attnAsserted = true ↔
    s.notices.attnEnable = true ∧ s.notices.queue ≠ [] ∧ s.vdd = true ∧ s.rstnAsserted = false)

/-! ### The interpreter, the transmitter and the receiver -/

/-- A kind that is no request code is answered with kind FEh, UNKNOWN-KIND and the kind byte; a body that does not fit its
kind is answered BAD-LENGTH. Neither changes any state. -/
def Obligations.UnknownAndMisfitAnswers : Prop :=
  (∀ (s : State) (kind tag : Byte) (body : List Byte), LinkReady s → (∀ k : RequestKind, k.code ≠ kind) →
    exec (.unknownKind kind tag body) s =
      .next (transmit (placeReply { kind := 0xFE#8, tag := tag, body := [0x02#8, kind] } s))) ∧
  (∀ (s : State) (k : RequestKind) (tag : Byte) (body : List Byte) (pins : Pins), LinkReady s → bodyFits k body = false →
    exec (requestCommand k tag body pins) s = .next (answered k.code tag .badLength [] (requestLevels k pins s)))

/-- While the reply queue holds 4 replies that cannot leave, a good frame waits at the tail of the intake queue; with 4
waiting it is dropped and the overflow counter rises. With VDD absent or RSTn asserted no frame is taken. -/
def Obligations.RequestsWaitForSlot : Prop :=
  ∀ (s : State) (k : RequestKind) (tag : Byte) (body : List Byte) (pins : Pins),
    let s1 := requestLevels k pins s
    (s.linkOn = true → s.link.replies.length = 4 → s.transmitterHeld = true → s.link.intake.length < 4 →
      exec (requestCommand k tag body pins) s = .next { s1 with link := { s1.link with
        intake := s.link.intake ++ [{ kind := k.code, tag := tag, body := body }] } }) ∧
    (s.linkOn = true → s.link.replies.length = 4 → s.transmitterHeld = true → 4 ≤ s.link.intake.length →
      exec (requestCommand k tag body pins) s = .next { s1 with link := { s1.link with
        counters := { s.link.counters with overflow := min 65535 (s.link.counters.overflow + 1) } } }) ∧
    (s.linkOn = false → exec (requestCommand k tag body pins) s = .next s1)

/-- The transmitter, idle with HRDY asserted, takes the oldest reply; with none queued, the oldest untransmitted notice where
PUSH or a fetch credit allows it, which it marks and, in PULL, counts against the credit; otherwise it takes nothing. Serving
the link with no frame waiting is this decision alone, and nothing while the link is off. A notice's frame has its code, its
sequence number, its optional timestamp and its body, kind by kind. -/
def Obligations.TransmitterDecides : Prop :=
  (∀ s : State,
    ((s.hrdy = false ∨ s.link.sending ≠ none) → transmit s = s) ∧
    (∀ (f : Frame) (rest : List Frame), s.hrdy = true → s.link.sending = none → s.link.replies = f :: rest →
      transmit s = { s with link := { s.link with
        replies := rest, sending := some { frame := f, rate := s.link.rate } } }) ∧
    (∀ (old new : List Notice) (n : Notice), s.hrdy = true → s.link.sending = none → s.link.replies = [] →
      s.notices.queue = old ++ n :: new → (∀ x ∈ old, x.transmitted = true) → n.transmitted = false →
      (s.notices.mode = .push ∨ 0 < s.notices.credit) →
      transmit s = { s with
        link := { s.link with sending := some { frame := n.frame, rate := s.link.rate } },
        notices := { s.notices with
          queue := old ++ { n with transmitted := true } :: new,
          credit := if s.notices.mode = .push then s.notices.credit else s.notices.credit - 1 } }) ∧
    (s.link.replies = [] → ((∀ x ∈ s.notices.queue, x.transmitted = true) ∨ (s.notices.mode = .pull ∧ s.notices.credit = 0)) →
      transmit s = s) ∧
    (s.linkOn = true → s.link.intake = [] → serveLink s = transmit s) ∧
    (s.linkOn = false → serveLink s = s)) ∧
  (∀ n : Notice,
    let fields := fun (t : Timestamp) => bytes16 t.day ++ [byte t.hour, byte t.minute, byte t.second, byte t.fraction]
    let stamp := match n.timestamp with
      | some t => [0x01#8] ++ fields t
      | none => List.replicate 7 0x00#8
    let unit := fun (u : Option Nat) => match u with
      | some x => byte x
      | none => 0xFF#8
    let origin := fun (o : ReferralOrigin) => match o with
      | .ticket t => bytes16 t
      | .poll => [0x00#8, 0x00#8]
    let sent := fun (kind : Byte) (body : List Byte) => n.frame = { kind := kind, tag := byte n.seq, body := stamp ++ body }
    (∀ k r v o, n.body = .start k r v o →
      sent 0x60#8 [k.code, byte ((if r then 1 else 0) + (if v then 2 else 0) + (if o then 4 else 0))]) ∧
    (∀ c : Completion, n.body = .txnDone c →
      let first := fun (index generation : Nat) => bytes16 c.ticket ++
        [byte (index + (if c.admitted = none then 0 else 128)), byte generation, byte (c.outcome.code + 16 * c.attempts)]
      let rest := (match c.admitted with
          | some t => fields t
          | none => []) ++
        (match c.reply with
          | some r => r.status :: r.data
          | none => [])
      (c.origin = .host → sent 0x61#8 (first 0x3F 0 ++ rest)) ∧
      (∀ i g, c.origin = .schedule i g → sent 0x61#8 (first i g ++ rest))) ∧
    (∀ i g r t, n.body = .schFired i g r t →
      let value := match r with
        | .queued ticket => bytes16 ticket
        | .notified note => [0x00#8, note]
        | .skipped => [0x00#8, 0x00#8]
        | .droppedFull => [0x00#8, 0x00#8]
      sent 0x62#8 ([byte i, byte g, r.code] ++ value ++ bytes16 t.day ++ [byte t.hour, byte t.minute, byte t.second])) ∧
    (∀ i st u o h q d, n.body = .referral i st u o h q d →
      sent 0x63#8 ([byte i, byte st, unit u] ++ origin o ++ [byte h, q] ++ d)) ∧
    (∀ i c v o st u oc fr, n.body = .refClosed i c v o st u oc fr →
      let final := match fr with
        | some r => [r.cls.code, r.status] ++ r.data
        | none => []
      sent 0x64#8 ([byte i, c.code, v.code] ++ origin o ++ [byte st, unit u, byte oc.code] ++ final)) ∧
    (∀ st b d, n.body = .service st b d → sent 0x65#8 ([byte st, b] ++ d)) ∧
    (∀ st old new, n.body = .stationState st old new → sent 0x66#8 [byte st, old.code, new.code]) ∧
    (∀ e, n.body = .busState e → sent 0x67#8 [e.code]) ∧
    (∀ e t, n.body = .calEvent e t → sent 0x68#8 ([e.code] ++ fields t)) ∧
    (∀ c, n.body = .noticeLost c → sent 0x69#8 [byte c]))

/-- HRDY asserted and the end of a frame bring the transmitter to its decision; a reply taken from a full queue lets the
interpreter take the oldest waiting request, a RESET-PART too, whose start empties the queues before its reply; HRDY deasserted
changes nothing else. A request command whose frame is taken at once is served as a waiting frame is. That the end of a frame
with no frame on HTXD changes nothing is the model's choice (log 3). -/
def Obligations.LinkPinEvents : Prop :=
  (∀ s : State, exec .hrdyDeasserted s = .next { s with hrdy := false }) ∧
  (∀ (s : State) (pins : Pins), s.linkOn = true → s.link.intake = [] →
    exec (.hrdyAsserted pins) s = .next (transmit { withPins pins s with hrdy := true }) ∧
    (s.link.sending ≠ none → exec (.transmitFrameEnd pins) s =
      .next (transmit { withPins pins s with link := { s.link with sending := none } }))) ∧
  (∀ (s : State) (pins : Pins) (r f : Frame) (rs fs : List Frame), s.linkOn = true → s.link.replies = r :: rs →
    s.link.replies.length = 4 → s.link.intake = f :: fs →
    let s1 := withPins pins s
    let taken := { s.link with intake := fs, replies := rs, sending := some { frame := r, rate := s.link.rate } }
    (s.hrdy = true → s.link.sending ≠ none →
      exec (.transmitFrameEnd pins) s = .next (serveFrame f { s1 with link := taken })) ∧
    (s.hrdy = false → s.link.sending ≠ none →
      exec (.transmitFrameEnd pins) s = .next { s1 with link := { s.link with sending := none } }) ∧
    (s.link.sending = none →
      exec (.hrdyAsserted pins) s = .next (serveFrame f { s1 with hrdy := true, link := taken })) ∧
    (s.link.sending ≠ none → exec (.hrdyAsserted pins) s = .next { s1 with hrdy := true })) ∧
  (∀ (s : State) (tag : Byte),
    serveFrame { kind := 0x04#8, tag := tag, body := [0x00#8] } s =
      placeReply { kind := 0x84#8, tag := tag, body := [0x00#8, 0x00#8] } (start .soft s) ∧
    serveFrame { kind := 0x04#8, tag := tag, body := [0x01#8] } s =
      placeReply { kind := 0x84#8, tag := tag, body := [0x00#8, 0x01#8] } (start .clear s)) ∧
  (∀ (s : State) (k : RequestKind) (tag : Byte) (body : List Byte) (pins : Pins), LinkReady s →
    exec (requestCommand k tag body pins) s =
      .next (transmit (serveFrame { kind := k.code, tag := tag, body := body } (requestLevels k pins s)))) ∧
  (∀ (s : State) (pins : Pins), s.link.sending = none → exec (.transmitFrameEnd pins) s = .next (withPins pins s))

/-- The receiver's actions by framer state and byte, and the gap timer's expiry inside a frame; with the link off no byte is
taken. That a frame in the receiver stays, with its gap timer, while RSTn is asserted is the model's choice (log 13). -/
def Obligations.HostBytesFramed : Prop :=
  ∀ (s : State) (b : Byte) (pins : Pins),
    let s1 := withPins pins s
    let l := s.link
    let hunt : HostLink := { l with framer := .hunt, expected := 0, assembly := [], gapTimer := none }
    (s.linkOn = false → exec (.hostByteReceived b pins) s = .next s1 ∧ exec .gapTimerExpiry s = .next s) ∧
    (s.linkOn = true →
      (l.framer = .hunt → b = 0xC3#8 → exec (.hostByteReceived b pins) s = .next (serveLink { s1 with link :=
        { l with framer := .length, expected := 0, assembly := [], gapTimer := some 20 } })) ∧
      (l.framer = .hunt → b ≠ 0xC3#8 → exec (.hostByteReceived b pins) s = .next (serveLink { s1 with link :=
        { l with counters := { l.counters with stray := bump l.counters.stray } } })) ∧
      (l.framer = .length → 2 ≤ b.toNat → b.toNat ≤ 66 → exec (.hostByteReceived b pins) s = .next (serveLink { s1 with link :=
        { l with framer := .payload, expected := b.toNat, gapTimer := some 20 } })) ∧
      (l.framer = .length → (b.toNat < 2 ∨ 66 < b.toNat) → exec (.hostByteReceived b pins) s = .next (serveLink
        { s1 with link := { hunt with counters := { l.counters with length := bump l.counters.length } } })) ∧
      (l.framer = .payload → exec (.hostByteReceived b pins) s = .next (serveLink { s1 with link :=
        { l with assembly := l.assembly ++ [b], gapTimer := some 20,
                 framer := if l.assembly.length + 1 = l.expected then .check else .payload } })) ∧
      (∀ (k t : Byte) (body : List Byte), l.framer = .check → l.assembly = k :: t :: body →
        byte l.expected + l.assembly.sum + b = 0#8 → exec (.hostByteReceived b pins) s =
          .next (serveLink (placeFrame { kind := k, tag := t, body := body } { s1 with link := hunt }))) ∧
      (l.framer = .check → byte l.expected + l.assembly.sum + b ≠ 0#8 → exec (.hostByteReceived b pins) s =
        .next (serveLink { s1 with link := { hunt with counters := { l.counters with check := bump l.counters.check } } })) ∧
      (l.gapTimer ≠ none → exec .gapTimerExpiry s =
        .next (serveLink { s with link := { hunt with counters := { l.counters with gap := bump l.counters.gap } } })))

/-! ### Supplies, RSTn and the calendar -/

/-- The application of VDD makes a WARM start where the backup domain kept its contents and a COLD start otherwise; the loss of
VDD keeps the calendar record; the loss of the backup supply without VDD loses it, and with VDD changes nothing. RSTn asserted
cuts the frame on HTXD short and deasserts ATTN; its release makes a PIN start. While VDD is absent no event of the schedule, the
line or the Poll Unit changes more than the level of its pin. Four points are the model's choice, no rule of the spec: the
calendar record between a loss of the backup supply and the COLD start holds that start's values (log 12); RSTN_ASSERTED leaves
every other block and every queue as it was until the release, which the spec does not say (log 13); PIN_START without VDD
records the pin levels alone (log 13); and an event that comes while VDD is absent is accepted and changes only the pin level it
carries (log 3; that the levels come as operands is log 4). -/
def Obligations.SupplyAndResetEvents : Prop :=
  (∀ (s : State) (pins : Pins),
    (s.vdd = false → s.backupKept = true → exec (.powerUp pins) s =
      .next (serveLink (start .warm { withPins pins s with vdd := true }))) ∧
    (s.vdd = false → s.backupKept = false → exec (.powerUp pins) s =
      .next (serveLink (start .cold { withPins pins s with vdd := true, backupKept := true }))) ∧
    (s.vdd = true → ∃ t : State, exec .powerLoss s = .next t ∧ t.vdd = false ∧ t.cal = s.cal ∧ t.backupKept = s.backupKept ∧
      t.latnHeld = s.latnHeld ∧ t.hrdy = s.hrdy ∧ t.rstnAsserted = s.rstnAsserted ∧ t.pending = s.pending) ∧
    (s.vdd = false → exec .backupLoss s = .next { s with backupKept := false, cal := Calendar.cold }) ∧
    (s.vdd = true → exec .backupLoss s = .next s) ∧
    exec .rstnAsserted s = .next { s with rstnAsserted := true, link := { s.link with sending := none } } ∧
    ({ s with rstnAsserted := true, link := { s.link with sending := none } } : State).attnAsserted = false ∧
    (s.vdd = true → exec (.pinStart pins) s = .next (serveLink (start .pin { withPins pins s with rstnAsserted := false }))) ∧
    (s.vdd = false → exec (.pinStart pins) s = .next { withPins pins s with rstnAsserted := false })) ∧
  (∀ (s : State) (held : Bool) (b : Byte) (between : List Between), s.vdd = false →
    (∀ c ∈ [Instr.completionReport, .lineStuckExpiry, .pollHoldoffExpiry], exec c s = .next s) ∧
    (∀ c ∈ [Instr.scheduleEvaluation held between, .readyTimerExpiry held, .frameByteSent held, .turnHoldExpiry held,
        .replyWindowExpiry held, .replyByteReceived b held, .lineRestExpiry held, .busyBackoffExpiry held,
        .holdTimerExpiry held, .pollRequestPresented held], exec c s = .next (withLrdy held s)) ∧
    exec .lrdyReleased s = .next (withLrdy false s) ∧
    exec .latnHeld s = .next { s with latnHeld := true } ∧ exec .latnReleased s = .next { s with latnHeld := false })

/-- The oscillator monitor: every edge restarts its timer of 4 ms; the first edge in LOST starts the settle timer of 2 s, its
expiry makes OSC-STABLE true, a loss in STARTING or STABLE stops the calendar, clears both flags and raises OSC-LOST while VDD is
present; in RUNNING an edge below the 128th is counted in the divider, and the 128th makes a tick. On the backup supply alone
the timer goes on and a loss raises no notice; without either supply no event of the calendar occurs. That the tick is a command
of its own beside the edge is the model's choice (log 14). -/
def Obligations.OscillatorMonitor : Prop :=
  (∀ s : State, s.vdd = true →
    (s.cal.monitor = .lost →
      exec .oscillatorEdge s = .next (serveLink { s with cal := { s.cal with
        monitor := .starting, settleTimer := some 2000, monitorTimer := some 4 } }) ∧
      exec .oscLoss s = .next (serveLink s)) ∧
    (s.cal.monitor = .starting →
      exec .oscillatorEdge s = .next (serveLink { s with cal := { s.cal with monitorTimer := some 4 } }) ∧
      exec .settleTimerExpiry s = .next (serveLink { s with cal := { s.cal with
        monitor := .stable, oscStable := true, settleTimer := none } })) ∧
    (s.cal.monitor = .stable → s.cal.running = false →
      exec .oscillatorEdge s = .next (serveLink { s with cal := { s.cal with monitorTimer := some 4 } })) ∧
    (s.cal.monitor = .stable → s.cal.running = true →
      (s.cal.divider < 127 →
        exec .oscillatorEdge s = .next (serveLink { s with cal := { s.cal with
          divider := s.cal.divider + 1, monitorTimer := some 4 } })) ∧
      (s.cal.divider = 127 →
        exec .oscillatorEdge s = exec .tick { s with cal := { s.cal with monitorTimer := some 4 } })) ∧
    (s.cal.monitor ≠ .lost →
      let c : Calendar := { s.cal with monitor := .lost, settleTimer := none, monitorTimer := none, oscStable := false,
                                       running := false, timeValid := false, divider := 0 }
      exec .oscLoss s = .next (serveLink (raise (.calEvent .oscLost
        { day := c.day, hour := c.hour, minute := c.minute, second := c.second, fraction := c.fraction }) { s with cal := c })))) ∧
  (∀ s : State, s.vdd = false → s.backupKept = true →
    (s.cal.monitor = .starting →
      exec .oscillatorEdge s = .next { s with cal := { s.cal with monitorTimer := some 4 } }) ∧
    (s.cal.monitor ≠ .lost → exec .oscLoss s =
      .next { s with cal := { s.cal with
        monitor := .lost, settleTimer := none, monitorTimer := none, oscStable := false, running := false,
        timeValid := false, divider := 0 } })) ∧
  (∀ s : State, s.vdd = false → s.backupKept = false →
    ∀ c ∈ [Instr.oscillatorEdge, .settleTimerExpiry, .oscLoss, .tick], exec c s = .next s)

/-- A tick in RUNNING advances the counters by 1/256 s over the whole range of days, with the divider at 0 and every flag
kept; the tick that advances the second raises its second boundary, after a CAL-EVENT (WRAP) where the day passes 65535. In
STOPPED no tick occurs. On the backup supply alone a tick advances the counters and raises nothing. -/
def Obligations.TickCounts : Prop :=
  (∀ s : State, s.cal.ok = true → s.vdd = true → s.cal.running = true → ∃ c : Calendar,
    c.ok = true ∧ c.ticks = (s.cal.ticks + 1) % (65536 * 86400 * 256) ∧ c.divider = 0 ∧ c.running = true ∧
    c.timeValid = s.cal.timeValid ∧ c.oscStable = s.cal.oscStable ∧ c.monitor = s.cal.monitor ∧
    c.settleTimer = s.cal.settleTimer ∧ c.monitorTimer = s.cal.monitorTimer ∧
    (let s1 := { s with cal := c }
     let s2 := if c.ticks = 0 then raise (.calEvent .wrap
       { day := 0, hour := 0, minute := 0, second := 0, fraction := 0 }) s1 else s1
     let s3 := if c.fraction = 0 then { s2 with boundaries := s.boundaries ++
       [{ day := c.day, hour := c.hour, minute := c.minute, second := c.second }] } else s2
     exec .tick s = .next (serveLink s3))) ∧
  (∀ s : State, s.vdd = true → s.cal.running = false → exec .tick s = .next (serveLink s)) ∧
  (∀ s : State, s.cal.ok = true → s.vdd = false → s.backupKept = true → s.cal.running = true → ∃ c : Calendar,
    c.ok = true ∧ c.ticks = (s.cal.ticks + 1) % (65536 * 86400 * 256) ∧ c.divider = 0 ∧ c.running = true ∧
    c.timeValid = s.cal.timeValid ∧ c.oscStable = s.cal.oscStable ∧ c.monitor = s.cal.monitor ∧
    c.settleTimer = s.cal.settleTimer ∧ c.monitorTimer = s.cal.monitorTimer ∧ exec .tick s = .next { s with cal := c })

/-! ### The schedule -/

/-- An evaluation takes the oldest second boundary and fires, from index 0 to 39, each ARMED entry that matches it; then comes
the grant decision of an engine left IDLE with work. Between two claims any other event can come, which is the command of its
name, unless a completion report, a request on the schedule table or a RESET-PART would be taken at it: these come before or
after the evaluation, and such an event then changes nothing; with none, nothing comes between two firings. The engine's take
is its grant decision; a BUS-CANCEL that comes after a decision for the queue and before its take leaves that take to the
queue as it is then, and a take that finds it emptied sets the last grant to QUEUE and the engine decides again. The form in
which these events are given is the model's (logs 8, 20 and 21), and so is that the command without a raised boundary changes
nothing (log 3). -/
def Obligations.EvaluationScansInOrder : Prop :=
  (∀ (s : State) (held : Bool) (ev : SecondBoundary) (rest : List SecondBoundary), s.vdd = true → s.boundaries = ev :: rest →
    exec (.scheduleEvaluation held []) s =
      .next (serveLink (decideGrant ((List.range 40).foldl
        (fun t i => if (t.entryAt i).state = .armed ∧ (t.entryAt i).defn.isMatch ev = true then fireEntry ev i t else t)
        { withLrdy held s with boundaries := rest })))) ∧
  (∀ (d : EntryDef) (ev : SecondBoundary), d.isMatch ev = true ↔
    d.second = ev.second ∧ (∀ m, d.minute = some m → m = ev.minute) ∧ (∀ h, d.hour = some h → h = ev.hour) ∧
    (∀ p, d.day = some p → ev.day % p.length = p.phase)) ∧
  (∀ (s : State) (held : Bool) (between : List Between), s.vdd = true → s.boundaries = [] →
    exec (.scheduleEvaluation held between) s = .next (serveLink (withLrdy held s))) ∧
  (∀ (s : State) (held : Bool) (between : List Between) (ev : SecondBoundary) (rest : List SecondBoundary), s.vdd = true →
    s.boundaries = ev :: rest →
    exec (.scheduleEvaluation held between) s = .next (serveLink (decideGrant
      (scanEntries ev between (List.range 40) { withLrdy held s with boundaries := rest })))) ∧
  (∀ (ev : SecondBoundary) (between : List Between) (i : Nat) (later : List Nat) (s : State),
    scanEntries ev between [] s = s ∧
    scanEntries ev between (i :: later) s = scanEntries ev between later (takeBetween between i
      (if (s.entryAt i).state = .armed ∧ (s.entryAt i).defn.isMatch ev = true then fireEntry ev i s else s))) ∧
  (∀ (b : Between) (rest : List Between) (i : Nat) (s : State),
    takeBetween [] i s = s ∧
    takeBetween (b :: rest) i s = takeBetween rest i (if b.entry = i then afterBetween b.event s else s)) ∧
  (∀ (e : BetweenEvent) (c : Instr) (s t : State), betweenCommand e = some c → exec c s = .next t →
    (e.besideEvaluation = true → leavesEvaluationWhole s t = true → afterBetween e s = t) ∧
    (e.besideEvaluation = false ∨ leavesEvaluationWhole s t = false → afterBetween e s = s)) ∧
  (∀ s t : State,
    let forTable : List Byte := [0x04#8, 0x20#8, 0x21#8, 0x22#8, 0x23#8, 0x24#8, 0x25#8]
    let waiting := fun (u : State) => u.link.intake.filter (fun f => f.kind ∈ forTable)
    let ofSchedule := fun (x : Transaction) => x.origin != .host
    let atEngine := fun (u : State) => match u.engine.work with
      | some (.transaction x) => if ofSchedule x then 1 else 0
      | some (.poll _) => 0
      | none => 0
    let awaited := fun (u : State) =>
      ((u.queue.urgent ++ u.queue.normal).filter ofSchedule).length + atEngine u + u.reports.length
    (leavesEvaluationWhole s t = true ↔ awaited t = awaited s ∧ waiting t = waiting s) ∧
    (∀ (k : RequestKind) (tag : Byte) (body : List Byte) (pins : Pins),
      (BetweenEvent.request k tag body pins).besideEvaluation = true ↔ k.code ∉ forTable)) ∧
  (∀ (s : State) (held : Bool), s.vdd = true →
    let t := serveLink (decideGrant (withLrdy held s))
    leavesEvaluationWhole s t = true → afterBetween (.take held) s = t) ∧
  (∀ (s t : State) (tag : Byte) (body : List Byte) (held : Bool), exec (.busCancel tag body held) s = .next t →
    let decided := fun (u : State) =>
      leavesEvaluationWhole s u = true → afterBetween (.cancelDecided tag body held) s = u
    (s.engine.state ≠ .idle ∨ (∃ n, s.poll.presented = some n ∧ s.engine.lastGrant ≠ .poll) ∨
        (s.queue.urgent = [] ∧ s.queue.normal = []) → decided t) ∧
    (s.engine.state = .idle → (s.poll.presented = none ∨ s.engine.lastGrant = .poll) →
        (s.queue.urgent ≠ [] ∨ s.queue.normal ≠ []) → t.vdd = true → t.engine.state = .idle →
      (t.queue.urgent = [] → t.queue.normal = [] →
        decided (serveLink (decideGrant { t with engine := { t.engine with lastGrant := .queue } }))) ∧
      ((t.queue.urgent ≠ [] ∨ t.queue.normal ≠ []) → (t.poll.presented = none ∨ t.engine.lastGrant = .poll) →
        decided (serveLink (decideGrant t)))))

/-- A firing: NOTIFY raises SCH-FIRED with the note; TRANSACT is SKIPPED with a live ticket under SKIP, DROPPED-FULL on a full
queue, otherwise admitted as the entry's live ticket. A ONCE entry is SPENT whatever the result. -/
def Obligations.FiringByAction : Prop :=
  ∀ (s : State) (i : Nat) (ev : SecondBoundary),
    let e := s.entryAt i
    let spend := fun (x : Entry) => if e.defn.repeats then x else { x with state := .spent }
    let now := if s.cal.timeValid then some s.cal.counters else none
    let missed := { s with schedule := s.schedule.set i (spend { e with missCount := min 255 (e.missCount + 1) }) }
    let skipped := e.defn.overlap = .skip ∧ e.liveTicket ≠ none
    e.fireCount ≤ 65535 → e.missCount ≤ 255 →
    (∀ note : Byte, e.defn.action = .notify note →
      fireEntry ev i s = raise (.schFired i e.generation (.notified note) ev)
        { s with schedule := s.schedule.set i (spend { e with fireCount := min 65535 (e.fireCount + 1), lastFired := now }) }) ∧
    (∀ t : TxnSpec, e.defn.action = .transact t → skipped →
      fireEntry ev i s =
        if e.defn.report = .none then missed else raise (.schFired i e.generation .skipped ev) missed) ∧
    (∀ t : TxnSpec, e.defn.action = .transact t → ¬ skipped → 24 ≤ s.queue.count →
      fireEntry ev i s =
        if e.defn.report = .none then missed else raise (.schFired i e.generation .droppedFull ev) missed) ∧
    (∀ t : TxnSpec, e.defn.action = .transact t → ¬ skipped → s.queue.count < 24 →
      let s1 := { admission (.schedule i e.generation) t s with schedule := s.schedule.set i (spend
        { e with fireCount := min 65535 (e.fireCount + 1), lastFired := now, liveTicket := some s.ticketToGive }) }
      fireEntry ev i s =
        if e.defn.report = .all then raise (.schFired i e.generation (.queued s.ticketToGive) ev) s1 else s1)

/-- A completion record of the entry's generation clears the live ticket it names and raises TXN-DONE where the report policy
calls for it; a record of another generation changes nothing. -/
def Obligations.CompletionReportsTaken : Prop :=
  ∀ (s : State) (c : Completion) (rest : List Completion) (i g : Nat), s.vdd = true → s.reports = c :: rest →
    c.origin = .schedule i g →
    let s1 := { s with reports := rest }
    let e := s.entryAt i
    let s2 := if e.liveTicket = some c.ticket then { s1 with schedule := s.schedule.set i { e with liveTicket := none } } else s1
    (e.generation ≠ g → exec .completionReport s = .next (serveLink s1)) ∧
    (e.generation = g → (e.defn.report = .all ∨ (e.defn.report = .misses ∧ c.outcome ≠ .done)) →
      exec .completionReport s = .next (serveLink (raise (.txnDone c) s2))) ∧
    (e.generation = g → (e.defn.report = .none ∨ (e.defn.report = .misses ∧ c.outcome = .done)) →
      exec .completionReport s = .next (serveLink s2))

/-! ### The station line -/

/-- A station report: the contact update first, then the failure update against the threshold in force, one STATION-STATE for
a net change of state. On a change to UNDEFINED or QUARANTINED the Poll Unit takes the station out of its cycle, and withdraws a
request presented for it and turns to the next member; EndOfWorkSteps says when it does so at the end of work. -/
def Obligations.StationReportsTaken : Prop :=
  (∀ (r : Station) (reply : Option Reply) (failed : Bool) (threshold : Nat) (now : Option Timestamp),
    let c : Station := match reply with
      | some y => { r with
          failures := 0, lastStatus := some y.status, servicePending := y.status.msb, lastContact := now,
          state := if r.state = .unknown ∨ r.state = .silent then .present else r.state }
      | none => r
    (failed = false → r.reported reply failed threshold now = c) ∧
    (failed = true → threshold ≤ c.failures → r.reported reply failed threshold now = c) ∧
    (failed = true → c.failures + 1 < threshold →
      r.reported reply failed threshold now = { c with failures := c.failures + 1 }) ∧
    (failed = true → c.failures + 1 = threshold → r.reported reply failed threshold now =
      { c with
        failures := threshold,
        state := if c.state = .unknown ∨ c.state = .present then
            (if c.policy = .staySilent then .silent else .quarantined) else c.state })) ∧
  (∀ (s : State) (n : Nat) (reply : Option Reply) (failed : Bool),
    let old := s.stationAt n
    let new := old.reported reply failed s.engine.config.failureThreshold s.cal.stamp
    let s1 := { s with stations := s.stations.set (n - 1) new }
    (new.state = old.state → stationReport n reply failed s = s1) ∧
    (new.state ≠ old.state → stationReport n reply failed s = raise (.stationState n old.state new.state) s1)) ∧
  (∀ (s : State) (n : Nat),
    (s.poll.cycle = none → pollStationGone n s = s) ∧
    (∀ c : Cycle, s.poll.cycle = some c → (c.inFlight ≠ some n ∨ c.request ≠ .presented) →
      pollStationGone n s =
        { s with poll := { s.poll with cycle := some { c with remaining := c.remaining.filter (· != n) } } }) ∧
    (∀ c : Cycle, s.poll.cycle = some c → c.inFlight = some n → c.request = .presented →
      pollStationGone n s = pollTurn { s with poll := { s.poll with
        cycle := some { c with inFlight := none, request := .none }, due := false } }))

/-- LRDY released ends a LINE-CHECK, a ready wait or the wait of TURN; the line-stuck timer at LINE-CHECK ends the exchange
LINE-FAULT; the ready timer ends it NO-READY in SEND and NO-REPLY in RECEIVE. With no exchange in progress the events of an exchange
change nothing on the line (log 3). -/
def Obligations.LineReadyEvents : Prop :=
  (∀ (s : State) (held : Bool) (x : Exchange), s.vdd = true → s.engine.exchange = some x →
    let s1 := withLrdy false s
    let next := fun (y : Exchange) => serveLink { s1 with engine := { s.engine with exchange := some y } }
    (x.phase = .lineCheck →
      exec .lrdyReleased s = .next (next { x with phase := .send, lineStuck := none }) ∧
      exec .lineStuckExpiry s = .next (serveLink (endExchange x .lineFault s))) ∧
    (x.phase = .send →
      exec .lrdyReleased s = .next (next { x with ready := none }) ∧
      (x.ready ≠ none → exec (.readyTimerExpiry held) s =
        .next (serveLink (endExchange x (.failed .noReady) (withLrdy held s))))) ∧
    (x.phase = .receive →
      exec .lrdyReleased s = .next (next { x with ready := none }) ∧
      (x.ready ≠ none → exec (.readyTimerExpiry held) s =
        .next (serveLink (endExchange x (.failed .noReply) (withLrdy held s))))) ∧
    (x.phase = .turn → x.turnHold = none →
      exec .lrdyReleased s = .next (next { x with phase := .receive, replyWindow := none }))) ∧
  (∀ (s : State) (held : Bool) (b : Byte), s.vdd = true → s.engine.exchange = none →
    exec .lrdyReleased s = .next (serveLink (withLrdy false s)) ∧ exec .lineStuckExpiry s = .next (serveLink s) ∧
    exec (.readyTimerExpiry held) s = .next (serveLink (withLrdy held s)) ∧
    exec (.frameByteSent held) s = .next (serveLink (withLrdy held s)) ∧
    exec (.turnHoldExpiry held) s = .next (serveLink (withLrdy held s)) ∧
    exec (.replyWindowExpiry held) s = .next (serveLink (withLrdy held s)) ∧
    exec (.replyByteReceived b held) s = .next (serveLink (withLrdy held s)))

/-- SEND and TURN: a byte before the last leads to the next ready wait; the check byte leads to TURN, with the reply window
and the turn hold of one byte time, or ends the exchange SENT; at the turn hold's expiry LRDY released ends it NO-REPLY and
LRDY held waits; the reply window ends it NO-REPLY. The part puts nothing on LDT in LINE-CHECK, a start mark as SEND begins, the
eight bits of the next frame byte with each byte clocked, and so the whole frame with the check byte. -/
def Obligations.FrameBytesAndTurn : Prop :=
  (∀ x : Exchange,
    let bits := fun (b : Byte) => [LineSignal.bit (b.getLsbD 0), .bit (b.getLsbD 1), .bit (b.getLsbD 2), .bit (b.getLsbD 3),
                                   .bit (b.getLsbD 4), .bit (b.getLsbD 5), .bit (b.getLsbD 6), .bit (b.getLsbD 7)]
    (x.phase = .lineCheck → x.sentSignals = []) ∧
    (x.phase = .send → x.bytesSent = 0 → x.sentSignals = [.startMark]) ∧
    (∀ b : Byte, x.phase = .send → x.frame.bytes[x.bytesSent]? = some b →
      ({ x with bytesSent := x.bytesSent + 1 } : Exchange).sentSignals = x.sentSignals ++ bits b) ∧
    (x.phase ≠ .lineCheck → x.bytesSent = x.frame.bytes.length → x.sentSignals = x.frame.signals)) ∧
  (∀ (s : State) (held : Bool) (x : Exchange), s.vdd = true → s.engine.exchange = some x →
    let s1 := withLrdy held s
    let next := fun (y : Exchange) => serveLink { s1 with engine := { s.engine with exchange := some y } }
    let len := x.frame.bytes.length
    (x.phase = .send → x.ready = none →
      (x.bytesSent + 1 < len → exec (.frameByteSent held) s = .next (next { x with
        bytesSent := x.bytesSent + 1, ready := if held then some s.engine.config.readyTimeoutMs else none })) ∧
      (x.bytesSent + 1 = len → x.replyExpected = true → exec (.frameByteSent held) s = .next (next { x with
        bytesSent := len, phase := .turn, replyWindow := some s.engine.config.replyWindowMs,
        turnHold := some (match s.engine.config.rate with
          | .k12_5 => 640
          | .k50 => 160
          | .k100 => 80
          | .k250 => 32) })) ∧
      (x.bytesSent + 1 = len → x.replyExpected = false → exec (.frameByteSent held) s =
        .next (serveLink (endExchange { x with bytesSent := len } .sent s1)))) ∧
    (x.phase = .turn →
      (x.turnHold ≠ none → held = false → exec (.turnHoldExpiry held) s =
        .next (serveLink (endExchange x (.failed .noReply) s1))) ∧
      (x.turnHold ≠ none → held = true → exec (.turnHoldExpiry held) s = .next (next { x with turnHold := none })) ∧
      exec (.replyWindowExpiry held) s = .next (serveLink (endExchange x (.failed .noReply) s1))))

/-- RECEIVE and CLOSE: a head that names no class or more than 8 data bytes ends the exchange CHECK-ERROR at once; a byte
before the check leads to the next ready wait; the check gives REPLY with its class, status and data where it agrees with the
XOR from 5Ah of the bytes before it, and CHECK-ERROR otherwise. -/
def Obligations.ReplyBytesReceived : Prop :=
  ∀ (s : State) (held : Bool) (x : Exchange) (b : Byte), s.vdd = true → s.engine.exchange = some x → x.phase = .receive →
    x.ready = none →
    let s1 := withLrdy held s
    let next := serveLink { s1 with engine := { s.engine with exchange := some { x with
      replySoFar := x.replySoFar ++ [b], ready := if held then some s.engine.config.readyTimeoutMs else none } } }
    (x.replySoFar = [] → (b.toNat / 16 < 1 ∨ 4 < b.toNat / 16 ∨ 8 < b.toNat % 16) →
      exec (.replyByteReceived b held) s = .next (serveLink (endExchange x (.failed .checkError) s1))) ∧
    (x.replySoFar = [] → 1 ≤ b.toNat / 16 → b.toNat / 16 ≤ 4 → b.toNat % 16 ≤ 8 →
      exec (.replyByteReceived b held) s = .next next) ∧
    (∀ (head : Byte) (rest : List Byte), x.replySoFar = head :: rest → 1 ≤ head.toNat / 16 → head.toNat / 16 ≤ 4 →
      head.toNat % 16 ≤ 8 →
      (rest.length < head.toNat % 16 + 1 → exec (.replyByteReceived b held) s = .next next) ∧
      (∀ (status : Byte) (data : List Byte) (cls : ReplyClass), rest = status :: data → data.length = head.toNat % 16 →
        cls.code.toNat = head.toNat / 16 →
        ((head :: status :: data).foldl (· ^^^ ·) 0x5A#8 = b → exec (.replyByteReceived b held) s =
          .next (serveLink (endExchange x (.reply { cls := cls, status := status, data := data }) s1))) ∧
        ((head :: status :: data).foldl (· ^^^ ·) 0x5A#8 ≠ b → exec (.replyByteReceived b held) s =
          .next (serveLink (endExchange x (.failed .checkError) s1)))))

/-- The engine's action on the result of an attempt: completion with the outcome of Table 3-4, the wait before the next
attempt while retries remain, or the referral a QUERY opens; the counters of Table 3-7 rise first. -/
def Obligations.AttemptResultsActed : Prop :=
  ∀ (s : State) (x : Exchange) (t : Transaction), x.kind = .attempt → s.engine.work = some (.transaction t) →
    let after := fun (c : LineCounters) => { s with engine := { s.engine with exchange := none, counters := c } }
    let replied := fun (r : Reply) (c : LineCounters) =>
      { s with engine := { s.engine with exchange := none, counters := c, lastReply := some r } }
    let k := s.engine.counters
    let retries := s.engine.attempts ≤ t.spec.retryLimit
    (∀ r : Reply, r.cls = .normal → endExchange x (.reply r) s = finishWork .done (.reply r) (replied r k)) ∧
    (∀ r : Reply, r.cls = .nack →
      endExchange x (.reply r) s = finishWork .nack (.reply r) (replied r { k with nacks := bump k.nacks })) ∧
    (∀ r : Reply, r.cls = .busy → retries → endExchange x (.reply r) s =
      { replied r k with engine := { (replied r k).engine with wait := some (.busyBackoff s.engine.config.busyBackoffMs) } }) ∧
    (∀ r : Reply, r.cls = .busy → ¬ retries →
      endExchange x (.reply r) s = finishWork .stationBusy (.reply r) (replied r k)) ∧
    (∀ r : Reply, r.cls = .query → endExchange x (.reply r) s = openReferral x r (replied r k)) ∧
    endExchange x .sent s = finishWork .done .sent (after k) ∧
    (∀ f : Failure,
      let c := match f with
        | .noReady => { k with noReady := bump k.noReady }
        | .noReply => { k with noReply := bump k.noReply }
        | .checkError => { k with checkError := bump k.checkError }
      (retries → endExchange x (.failed f) s =
        { after c with engine := { (after c).engine with wait := some (.lineRest 1) } }) ∧
      (¬ retries → endExchange x (.failed f) s = finishWork f.outcome (.failed f) (after c))) ∧
    endExchange x .lineFault s = finishWork .noReady .lineFault (after { k with lineFaults := bump k.lineFaults })

/-- A QUERY reply opens a referral: the record with the next id, the station, sub-unit, origin, question and opened time, the
hold timer at the hold timeout, the engine HELD, REFERRAL raised. A closing claim discards the record, returns the engine to
ACTIVE and begins the CONFIRM with the answer bytes or the DENY; the hold timer's expiry is such a claim. -/
def Obligations.ReferralOpensAndCloses : Prop :=
  (∀ (s : State) (x : Exchange) (r : Reply) (n : Nat) (o : ReferralOrigin), s.engine.station = some n →
    ((∃ t, s.engine.work = some (.transaction t) ∧ o = .ticket t.ticket) ∨ (∃ m, s.engine.work = some (.poll m) ∧ o = .poll)) →
    openReferral x r s = raise (.referral s.engine.nextReferralId n x.frame.subUnit o s.engine.config.holdTimeoutS r.status r.data)
      { s with engine := { s.engine with
          state := .held, lastReply := some r,
          nextReferralId := if s.engine.nextReferralId < 255 then s.engine.nextReferralId + 1 else 1,
          referral := some
            { id := s.engine.nextReferralId, station := n, subUnit := x.frame.subUnit, origin := o, questionStatus := r.status,
              questionData := r.data, opened := if s.cal.timeValid then some s.cal.counters else none,
              holdTimer := s.engine.config.holdTimeoutS } } }) ∧
  (∀ (s : State) (r : Referral) (c : Closure) (answer : List Byte),
    let kept : Closing := { closure := c, answer := answer, id := r.id, station := r.station, subUnit := r.subUnit, origin := r.origin }
    let s1 := { s with engine := { s.engine with state := .active, referral := none, closing := some kept } }
    (c = .answeredAccept → closeReferral r c answer s =
      beginExchange .confirm (LineFrame.build (.station r.station) r.subUnit 0xF1#8 answer) true s1) ∧
    ((c = .answeredReject ∨ c = .cancelled ∨ c = .timeout) → closeReferral r c answer s =
      beginExchange .deny (LineFrame.build (.station r.station) r.subUnit 0xF2#8 []) false s1)) ∧
  (∀ (s : State) (held : Bool) (r : Referral), s.vdd = true → s.engine.referral = some r →
    let s1 := withLrdy held s
    exec (.holdTimerExpiry held) s = .next (serveLink (closeReferral r .timeout []
      { s1 with engine := { s.engine with counters :=
        { s.engine.counters with holdTimeouts := bump s.engine.counters.holdTimeouts } } })))

/-- The next attempt begins at the expiry of the wait it waits for, with attempts begun, retries and exchanges started each
up by 1, in SEND where LRDY is released and in LINE-CHECK with the line-stuck timer where it is held. -/
def Obligations.WaitsBeginAttempt : Prop :=
  ∀ (s : State) (held : Bool) (t : Transaction) (ms : Nat), s.vdd = true → s.engine.work = some (.transaction t) →
    1 ≤ s.engine.attempts →
    let k := s.engine.counters
    let begun := serveLink { withLrdy held s with engine := { s.engine with
      attempts := s.engine.attempts + 1, wait := none,
      counters := { k with retries := bump k.retries, exchanges := bump k.exchanges },
      exchange := some
        { kind := .attempt, frame := LineFrame.build t.spec.dest t.spec.subUnit t.spec.command t.spec.args,
          replyExpected := (match t.spec.dest with
            | .station _ => true
            | .group _ => false
            | .all => false),
          phase := if held then .lineCheck else .send,
          bytesSent := 0, replySoFar := [], lineStuck := if held then some s.engine.config.lineStuckMs else none,
          ready := none, turnHold := none, replyWindow := none } } }
    (s.engine.wait = some (.lineRest ms) → exec (.lineRestExpiry held) s = .next begun) ∧
    (s.engine.wait = some (.busyBackoff ms) → exec (.busyBackoffExpiry held) s = .next begun)

/-- The end of the current work: the station report, the REF-CLOSED of a referral, the completion record (TXN-DONE for HOST
origin, a record on its way to the Schedule Unit otherwise) or the report to the Poll Unit; what the Poll Unit does on a change
to QUARANTINED that the report made; the work is cleared; then IDLE, PAUSED with BUS-STATE where a pause is pending, or FAULT with
BUS-STATE after a line fault; and then the next grant decision. Two points are the model's choice: where a SCHEDULE
transaction's end raises a BUS-STATE, the records on their way are taken first (log 20); and the ATTENTION-STUCK with which a
withdrawal ends the poll cycle comes behind REF-CLOSED and TXN-DONE and ahead of PAUSED (log 15). -/
def Obligations.EndOfWorkSteps : Prop :=
  ∀ (s : State) (w : Work) (outcome : TxnOutcome) (result : AttemptResult), s.engine.work = some w →
    let reported := match s.engine.station with
      | some n => stationReport n s.engine.lastReply
          (match result with
            | .failed _ => true
            | .sent => false
            | .reply _ => false
            | .lineFault => false) s
      | none => s
    let closed := match s.engine.closing with
      | some c => raise (.refClosed c.id (if result = .lineFault then .fault else c.closure)
          (if c.closure = .answeredAccept then .confirm else .deny) c.origin c.station c.subUnit outcome
          (match c.closure, result with
            | .answeredAccept, .reply r => some r
            | _, _ => none)) reported
      | none => reported
    let handed := match w with
      | .poll n => pollReport n result s.engine.lastReply closed
      | .transaction t =>
        let record : Completion := { ticket := t.ticket, origin := t.origin, outcome := outcome, reply := s.engine.lastReply,
                                     attempts := s.engine.attempts, admitted := t.admitted }
        if t.origin = .host then raise (.txnDone record) closed else { closed with reports := closed.reports ++ [record] }
    let taken := match w with
      | .poll _ => handed
      | .transaction t => if t.origin = .host then handed else takeReports handed
    let cleared := fun (st : EngineState) (u : State) => { u with engine := { u.engine with
      state := st, pausePending := false, work := none, station := none, attempts := 0, lastReply := none, wait := none,
      exchange := none, closing := none } }
    let told := fun (u : State) =>
      if u.poll.state = .cycling then { u with poll := { u.poll with state := .idle, cycle := none, due := false } } else u
    let withdrawn := fun (u : State) => match s.engine.station with
      | some n =>
        if (s.stationAt n).state ≠ .quarantined ∧ (u.stationAt n).state = .quarantined then pollStationGone n u else u
      | none => u
    let stuck := handed.poll.state ≠ .ignoring ∧ (withdrawn handed).poll.state = .ignoring
    (result ≠ .lineFault → s.engine.pausePending = false →
      (¬ stuck → endWork outcome result s = cleared .idle (withdrawn handed)) ∧
      (stuck → endWork outcome result s = cleared .idle (withdrawn taken))) ∧
    (result ≠ .lineFault → s.engine.pausePending = true →
      endWork outcome result s = told (raise (.busState .paused) (cleared .paused (withdrawn taken)))) ∧
    (result = .lineFault → endWork outcome result s = told (raise (.busState .fault) (cleared .fault (withdrawn taken)))) ∧
    finishWork outcome result s = decideGrant (endWork outcome result s)

/-- The grant, decision by decision. An IDLE engine with a presented poll takes it where the last grant is not POLL or the queue
is empty: the last grant becomes POLL, the request GRANTED, and a POLL exchange with command F0h begins. Otherwise it takes the
head, URGENT first: the last grant becomes QUEUE and the first attempt begins, or a start-time check of Table 1-4 completes the
transaction with attempts 0 and no exchange, and the engine decides again. No other state makes a grant.
POLL_REQUEST_PRESENTED is the decision of an IDLE engine on a request presented to it; a request presented to an engine that is
not IDLE waits for the next grant, and the command then changes nothing (log 3). The flag due that tells them apart is the
model's own (log 9). -/
def Obligations.GrantAlternates : Prop :=
  let began := fun (s : State) (kind : ExchangeKind) (frame : LineFrame) (reply : Bool) (e : LineEngine) => { e with
    counters := { e.counters with exchanges := bump e.counters.exchanges },
    exchange := some
      { kind := kind, frame := frame, replyExpected := reply, phase := if s.lrdyHeld then .lineCheck else .send,
        bytesSent := 0, replySoFar := [], lineStuck := if s.lrdyHeld then some s.engine.config.lineStuckMs else none,
        ready := none, turnHold := none, replyWindow := none } }
  let polled := fun (s : State) (c : Cycle) (n : Nat) => { s with
    engine := began s .poll (LineFrame.build (.station n) none 0xF0#8 []) true { s.engine with
      state := .active, lastGrant := .poll, work := some (.poll n), station := some n, attempts := 0, lastReply := none,
      wait := none },
    poll := { s.poll with due := false, cycle := some { c with request := .granted } } }
  (∀ s : State, decideGrant s = if (grantOnce s).2 then decideGrant (grantOnce s).1 else (grantOnce s).1) ∧
  (∀ s : State, s.engine.state ≠ .idle → grantOnce s = (s, false)) ∧
  (∀ (p : PollUnit) (n : Nat), p.presented = some n ↔
    ∃ c, p.cycle = some c ∧ c.inFlight = some n ∧ c.request = .presented ∧ p.due = false) ∧
  (∀ s : State, s.engine.state = .idle → s.poll.presented = none → s.queue.urgent = [] → s.queue.normal = [] →
    grantOnce s = (s, false)) ∧
  (∀ (s : State) (c : Cycle) (n : Nat), s.engine.state = .idle → s.poll.presented = some n → s.poll.cycle = some c →
    (s.engine.lastGrant ≠ .poll ∨ (s.queue.urgent = [] ∧ s.queue.normal = [])) → grantOnce s = (polled s c n, false)) ∧
  (∀ (s : State) (t : Transaction) (q : DispatchQueue), s.engine.state = .idle →
    (s.poll.presented = none ∨ s.engine.lastGrant = .poll) →
    (s.queue = { q with urgent := t :: q.urgent } ∨
      (s.queue.urgent = [] ∧ s.queue = { q with normal := t :: q.normal })) →
    let inService := fun (r : Station) => r.state ≠ .undefined ∧ r.state ≠ .quarantined
    let record := fun (o : TxnOutcome) => ({
      ticket := t.ticket, origin := t.origin, outcome := o, reply := none, attempts := 0, admitted := t.admitted } : Completion)
    let freed := { s with queue := q, engine := { s.engine with
      state := .idle, lastGrant := .queue, work := none, station := none, attempts := 0, lastReply := none, wait := none,
      exchange := none, closing := none } }
    let completes := fun (o : TxnOutcome) => s.engine.pausePending = false → grantOnce s =
      (if t.origin = .host then raise (.txnDone (record o)) freed else { freed with reports := s.reports ++ [record o] }, true)
    let runs := fun (station : Option Nat) => grantOnce s =
      ({ s with
          queue := q,
          engine := began s .attempt (LineFrame.build t.spec.dest t.spec.subUnit t.spec.command t.spec.args) station.isSome
            { s.engine with
              state := .active, lastGrant := .queue, work := some (.transaction t), station := station, attempts := 1,
              lastReply := none, wait := none },
          poll := { s.poll with due := false } }, false)
    (∀ n : Nat, t.spec.dest = .station n →
      let r := s.stationAt n
      (r.state = .undefined → completes .noStation) ∧
      (r.state ≠ .undefined → r.fits t.spec.subUnit = false → completes .noStation) ∧
      (r.state = .quarantined → r.fits t.spec.subUnit = true → completes .quarantined) ∧
      (inService r → r.fits t.spec.subUnit = true → runs (some n))) ∧
    (∀ g : Nat, t.spec.dest = .group g →
      ((∀ r ∈ s.stations, inService r → r.groups.getLsbD g = false) → completes .noStation) ∧
      (∀ r ∈ s.stations, inService r → r.groups.getLsbD g = true → runs none)) ∧
    (t.spec.dest = .all → runs none)) ∧
  (∀ (s : State) (held : Bool), s.vdd = true →
    (s.poll.due = false → exec (.pollRequestPresented held) s = .next (serveLink (withLrdy held s))) ∧
    (s.poll.due = true → exec (.pollRequestPresented held) s =
      .next (serveLink (decideGrant { withLrdy held s with poll := { s.poll with due := false } }))) ∧
    (∀ (c : Cycle) (n : Nat), s.engine.state = .idle → s.poll.due = true → s.poll.cycle = some c → c.inFlight = some n →
      c.request = .presented → (s.engine.lastGrant ≠ .poll ∨ (s.queue.urgent = [] ∧ s.queue.normal = [])) →
      exec (.pollRequestPresented held) s = .next (serveLink (polled (withLrdy held s) c n))))

/-- The Poll Unit's events: LATN held or a holdoff's expiry brings an IDLE unit to its test, which begins a cycle exactly when
LATN is held and the engine is neither PAUSED nor in FAULT; LATN released ends IGNORING with ATTENTION-CLEAR. A cycle's list holds the
pollable stations that are UNKNOWN, PRESENT or SILENT, in the rotation from one past the pointer, service pending first. -/
def Obligations.PollUnitEvents : Prop :=
  (∀ s : State, s.vdd = true →
    (s.poll.state = .idle → s.engine.state ≠ .paused → s.engine.state ≠ .fault → exec .latnHeld s =
      .next (serveLink (pollTurn (pollBuild { s with latnHeld := true })))) ∧
    ((s.poll.state ≠ .idle ∨ s.engine.state = .paused ∨ s.engine.state = .fault) → exec .latnHeld s =
      .next (serveLink { s with latnHeld := true })) ∧
    (s.poll.state = .ignoring → exec .latnReleased s = .next (serveLink (raise (.busState .attentionClear)
      { s with latnHeld := false, poll := { s.poll with state := .idle, phantomCount := 0 } }))) ∧
    (s.poll.state ≠ .ignoring → exec .latnReleased s = .next (serveLink { s with latnHeld := false })) ∧
    (s.poll.state = .holdoff →
      let idle := { s with poll := { s.poll with state := .idle, holdoff := none } }
      (s.latnHeld = true → s.engine.state ≠ .paused → s.engine.state ≠ .fault →
        exec .pollHoldoffExpiry s = .next (serveLink (pollTurn (pollBuild idle)))) ∧
      ((s.latnHeld = false ∨ s.engine.state = .paused ∨ s.engine.state = .fault) →
        exec .pollHoldoffExpiry s = .next (serveLink idle)))) ∧
  (∀ s : State, pollBuild s = { s with poll := { s.poll with
      state := .cycling, holdoff := none, due := false,
      cycle := some { remaining := s.cycleList, inFlight := none, request := .none, serviceSeen := false } } }) ∧
  (∀ s : State, s.poll.pointer ≤ 30 →
    let rotation := (List.range 30).map (fun k => (s.poll.pointer + k) % 30 + 1)
    let joins := fun (n : Nat) => (s.stationAt n).pollable &&
      ((s.stationAt n).state == .unknown || (s.stationAt n).state == .present || (s.stationAt n).state == .silent)
    s.cycleList = rotation.filter (fun n => joins n && (s.stationAt n).servicePending) ++
      rotation.filter (fun n => joins n && !(s.stationAt n).servicePending))

/-- Turning to the remaining list: the head is presented while LATN is held; LATN released ends the cycle in IDLE with phantom
count 0; the empty list with LATN held is the complete end, in HOLDOFF after service, and otherwise a phantom cycle that leads
to HOLDOFF or, at the phantom limit, to IGNORING with ATTENTION-STUCK. The reported end of a poll raises SERVICE, moves the
pointer and notes service seen where the last reply has the service flag, then turns; a line fault abandons the cycle. The flag
due, set where the engine is IDLE as the request is presented, is the model's own (log 9). -/
def Obligations.CycleTurns : Prop :=
  (∀ (s : State) (c : Cycle), s.poll.cycle = some c →
    (s.latnHeld = false → pollTurn s =
      { s with poll := { s.poll with state := .idle, cycle := none, phantomCount := 0, due := false } }) ∧
    (∀ (n : Nat) (rest : List Nat), s.latnHeld = true → c.remaining = n :: rest → pollTurn s =
      { s with poll := { s.poll with
          cycle := some { remaining := rest, inFlight := some n, request := .presented, serviceSeen := c.serviceSeen },
          due := s.engine.state == .idle } }) ∧
    (s.latnHeld = true → c.remaining = [] → c.serviceSeen = true → pollTurn s =
      { s with poll := { s.poll with
          state := .holdoff, cycle := none, due := false, phantomCount := 0, holdoff := some s.engine.config.pollHoldoffMs } }) ∧
    (s.latnHeld = true → c.remaining = [] → c.serviceSeen = false →
      let e := { s.engine with counters := { s.engine.counters with phantomCycles := bump s.engine.counters.phantomCycles } }
      let count := s.poll.phantomCount + 1
      (count < s.engine.config.phantomLimit → pollTurn s =
        { s with engine := e, poll := { s.poll with
            state := .holdoff, cycle := none, due := false, phantomCount := count,
            holdoff := some s.engine.config.pollHoldoffMs } }) ∧
      (s.engine.config.phantomLimit ≤ count → pollTurn s = raise (.busState .attentionStuck)
        { s with engine := e, poll := { s.poll with state := .ignoring, cycle := none, due := false, phantomCount := count } }))) ∧
  (∀ (s : State) (n : Nat) (result : AttemptResult) (last : Option Reply) (c : Cycle), s.poll.cycle = some c →
    let cleared : Cycle := { remaining := c.remaining, inFlight := none, request := .none, serviceSeen := c.serviceSeen }
    (∀ r : Reply, result ≠ .lineFault → last = some r → r.status.msb = true → pollReport n result last s =
      pollTurn (raise (.service n r.status r.data) { s with poll := { s.poll with
        pointer := n, cycle := some { cleared with serviceSeen := true } } })) ∧
    (result ≠ .lineFault → (∀ r : Reply, last = some r → r.status.msb = false) → pollReport n result last s =
      pollTurn { s with poll := { s.poll with cycle := some cleared } }) ∧
    (result = .lineFault → s.poll.state = .cycling → (∀ r : Reply, last = some r → r.status.msb = false) →
      pollReport n result last s =
        { s with poll := { s.poll with state := .idle, cycle := none, due := false } }) ∧
    (∀ r : Reply, result = .lineFault → s.poll.state = .cycling → last = some r → r.status.msb = true →
      pollReport n result last s = raise (.service n r.status r.data)
        { s with poll := { s.poll with state := .idle, pointer := n, cycle := none, due := false } }))

/-- The results of a poll and of a verdict exchange: a poll ends with its counters raised (the outcome its end is given stands
for none), or opens a referral on QUERY; a CONFIRM's final reply or
failure gives the outcome of Table 2-8; a DENY gives the outcome of its closure; a line fault gives NO-READY, or CANCELLED
where the closure was CANCELLED. -/
def Obligations.PollAndVerdictResults : Prop :=
  ∀ (s : State) (x : Exchange),
    let after := fun (c : LineCounters) => { s with engine := { s.engine with exchange := none, counters := c } }
    let replied := fun (r : Reply) (c : LineCounters) =>
      { s with engine := { s.engine with exchange := none, counters := c, lastReply := some r } }
    let k := s.engine.counters
    (x.kind = .poll →
      (∀ r : Reply, r.cls = .query → endExchange x (.reply r) s = openReferral x r (replied r k)) ∧
      (∀ r : Reply, r.cls ≠ .query → endExchange x (.reply r) s = finishWork .done (.reply r) (replied r k)) ∧
      endExchange x (.failed .noReply) s = finishWork .noReply (.failed .noReply) (after { k with noReply := bump k.noReply }) ∧
      endExchange x (.failed .noReady) s = finishWork .noReady (.failed .noReady) (after { k with noReady := bump k.noReady }) ∧
      endExchange x (.failed .checkError) s =
        finishWork .checkError (.failed .checkError) (after { k with checkError := bump k.checkError }) ∧
      endExchange x .lineFault s = finishWork .noReady .lineFault (after { k with lineFaults := bump k.lineFaults })) ∧
    (∀ c : Closing, s.engine.closing = some c → x.kind = .confirm → c.closure = .answeredAccept →
      (∀ r : Reply, r.cls = .normal → endExchange x (.reply r) s = finishWork .done (.reply r) (replied r k)) ∧
      (∀ r : Reply, r.cls = .nack →
        endExchange x (.reply r) s = finishWork .nack (.reply r) (replied r { k with nacks := bump k.nacks })) ∧
      (∀ r : Reply, r.cls = .query →
        endExchange x (.reply r) s = finishWork .nack (.reply r) (replied r { k with nestedQueries := bump k.nestedQueries })) ∧
      (∀ r : Reply, r.cls = .busy → endExchange x (.reply r) s = finishWork .stationBusy (.reply r) (replied r k)) ∧
      endExchange x (.failed .noReply) s = finishWork .noReply (.failed .noReply) (after { k with noReply := bump k.noReply }) ∧
      endExchange x (.failed .noReady) s = finishWork .noReady (.failed .noReady) (after { k with noReady := bump k.noReady }) ∧
      endExchange x (.failed .checkError) s =
        finishWork .checkError (.failed .checkError) (after { k with checkError := bump k.checkError }) ∧
      endExchange x .lineFault s = finishWork .noReady .lineFault (after { k with lineFaults := bump k.lineFaults })) ∧
    (∀ (c : Closing) (o : TxnOutcome), s.engine.closing = some c → x.kind = .deny →
      ((c.closure = .answeredReject ∧ o = .rejected) ∨ (c.closure = .cancelled ∧ o = .cancelled) ∨
        (c.closure = .timeout ∧ o = .holdTimeout)) →
      endExchange x .sent s = finishWork o .sent (after k) ∧
      endExchange x (.failed .noReady) s = finishWork o (.failed .noReady) (after { k with noReady := bump k.noReady }) ∧
      endExchange x .lineFault s = finishWork (if c.closure = .cancelled then .cancelled else .noReady) .lineFault
        (after { k with lineFaults := bump k.lineFaults }))
end

