-- ==== Sys2Proof/Laws/State.lean ====
section
/-! SUPPORT. What each named update of State leaves in each field: one lemma per field per update, each true by rfl. -/

namespace Sys2Proof.Machine

variable (s : State)

/-! Raising a notice changes the Notice Unit alone (R153, R154). -/

@[simp] theorem raise_vdd (b : NoticeBody) : (raise b s).vdd = s.vdd := rfl
@[simp] theorem raise_backupKept (b : NoticeBody) : (raise b s).backupKept = s.backupKept := rfl
@[simp] theorem raise_rstnAsserted (b : NoticeBody) : (raise b s).rstnAsserted = s.rstnAsserted := rfl
@[simp] theorem raise_latnHeld (b : NoticeBody) : (raise b s).latnHeld = s.latnHeld := rfl
@[simp] theorem raise_lrdyHeld (b : NoticeBody) : (raise b s).lrdyHeld = s.lrdyHeld := rfl
@[simp] theorem raise_hrdy (b : NoticeBody) : (raise b s).hrdy = s.hrdy := rfl
@[simp] theorem raise_hbr1 (b : NoticeBody) : (raise b s).hbr1 = s.hbr1 := rfl
@[simp] theorem raise_hbr0 (b : NoticeBody) : (raise b s).hbr0 = s.hbr0 := rfl
@[simp] theorem raise_link (b : NoticeBody) : (raise b s).link = s.link := rfl
@[simp] theorem raise_notices (b : NoticeBody) : (raise b s).notices = s.notices.raise s.cal.stamp b := rfl
@[simp] theorem raise_cal (b : NoticeBody) : (raise b s).cal = s.cal := rfl
@[simp] theorem raise_boundaries (b : NoticeBody) : (raise b s).boundaries = s.boundaries := rfl
@[simp] theorem raise_schedule (b : NoticeBody) : (raise b s).schedule = s.schedule := rfl
@[simp] theorem raise_reports (b : NoticeBody) : (raise b s).reports = s.reports := rfl
@[simp] theorem raise_queue (b : NoticeBody) : (raise b s).queue = s.queue := rfl
@[simp] theorem raise_engine (b : NoticeBody) : (raise b s).engine = s.engine := rfl
@[simp] theorem raise_stations (b : NoticeBody) : (raise b s).stations = s.stations := rfl
@[simp] theorem raise_poll (b : NoticeBody) : (raise b s).poll = s.poll := rfl
@[simp] theorem raise_choices (b : NoticeBody) : (raise b s).choices = s.choices := rfl
@[simp] theorem raise_pending (b : NoticeBody) : (raise b s).pending = s.pending := rfl

/-! A station record's write changes the Station Table alone. -/

@[simp] theorem setStation_vdd (n : Nat) (r : Station) : (setStation n r s).vdd = s.vdd := rfl
@[simp] theorem setStation_backupKept (n : Nat) (r : Station) : (setStation n r s).backupKept = s.backupKept := rfl
@[simp] theorem setStation_rstnAsserted (n : Nat) (r : Station) : (setStation n r s).rstnAsserted = s.rstnAsserted := rfl
@[simp] theorem setStation_latnHeld (n : Nat) (r : Station) : (setStation n r s).latnHeld = s.latnHeld := rfl
@[simp] theorem setStation_lrdyHeld (n : Nat) (r : Station) : (setStation n r s).lrdyHeld = s.lrdyHeld := rfl
@[simp] theorem setStation_hrdy (n : Nat) (r : Station) : (setStation n r s).hrdy = s.hrdy := rfl
@[simp] theorem setStation_hbr1 (n : Nat) (r : Station) : (setStation n r s).hbr1 = s.hbr1 := rfl
@[simp] theorem setStation_hbr0 (n : Nat) (r : Station) : (setStation n r s).hbr0 = s.hbr0 := rfl
@[simp] theorem setStation_link (n : Nat) (r : Station) : (setStation n r s).link = s.link := rfl
@[simp] theorem setStation_notices (n : Nat) (r : Station) : (setStation n r s).notices = s.notices := rfl
@[simp] theorem setStation_cal (n : Nat) (r : Station) : (setStation n r s).cal = s.cal := rfl
@[simp] theorem setStation_boundaries (n : Nat) (r : Station) : (setStation n r s).boundaries = s.boundaries := rfl
@[simp] theorem setStation_schedule (n : Nat) (r : Station) : (setStation n r s).schedule = s.schedule := rfl
@[simp] theorem setStation_reports (n : Nat) (r : Station) : (setStation n r s).reports = s.reports := rfl
@[simp] theorem setStation_queue (n : Nat) (r : Station) : (setStation n r s).queue = s.queue := rfl
@[simp] theorem setStation_engine (n : Nat) (r : Station) : (setStation n r s).engine = s.engine := rfl
@[simp] theorem setStation_stations (n : Nat) (r : Station) : (setStation n r s).stations = s.stations.set (n - 1) r := rfl
@[simp] theorem setStation_poll (n : Nat) (r : Station) : (setStation n r s).poll = s.poll := rfl
@[simp] theorem setStation_choices (n : Nat) (r : Station) : (setStation n r s).choices = s.choices := rfl
@[simp] theorem setStation_pending (n : Nat) (r : Station) : (setStation n r s).pending = s.pending := rfl

/-! An entry's write changes the schedule table alone. -/

@[simp] theorem setEntry_vdd (i : Nat) (e : Entry) : (setEntry i e s).vdd = s.vdd := rfl
@[simp] theorem setEntry_backupKept (i : Nat) (e : Entry) : (setEntry i e s).backupKept = s.backupKept := rfl
@[simp] theorem setEntry_rstnAsserted (i : Nat) (e : Entry) : (setEntry i e s).rstnAsserted = s.rstnAsserted := rfl
@[simp] theorem setEntry_latnHeld (i : Nat) (e : Entry) : (setEntry i e s).latnHeld = s.latnHeld := rfl
@[simp] theorem setEntry_lrdyHeld (i : Nat) (e : Entry) : (setEntry i e s).lrdyHeld = s.lrdyHeld := rfl
@[simp] theorem setEntry_hrdy (i : Nat) (e : Entry) : (setEntry i e s).hrdy = s.hrdy := rfl
@[simp] theorem setEntry_hbr1 (i : Nat) (e : Entry) : (setEntry i e s).hbr1 = s.hbr1 := rfl
@[simp] theorem setEntry_hbr0 (i : Nat) (e : Entry) : (setEntry i e s).hbr0 = s.hbr0 := rfl
@[simp] theorem setEntry_link (i : Nat) (e : Entry) : (setEntry i e s).link = s.link := rfl
@[simp] theorem setEntry_notices (i : Nat) (e : Entry) : (setEntry i e s).notices = s.notices := rfl
@[simp] theorem setEntry_cal (i : Nat) (e : Entry) : (setEntry i e s).cal = s.cal := rfl
@[simp] theorem setEntry_boundaries (i : Nat) (e : Entry) : (setEntry i e s).boundaries = s.boundaries := rfl
@[simp] theorem setEntry_schedule (i : Nat) (e : Entry) : (setEntry i e s).schedule = s.schedule.set i e := rfl
@[simp] theorem setEntry_reports (i : Nat) (e : Entry) : (setEntry i e s).reports = s.reports := rfl
@[simp] theorem setEntry_queue (i : Nat) (e : Entry) : (setEntry i e s).queue = s.queue := rfl
@[simp] theorem setEntry_engine (i : Nat) (e : Entry) : (setEntry i e s).engine = s.engine := rfl
@[simp] theorem setEntry_stations (i : Nat) (e : Entry) : (setEntry i e s).stations = s.stations := rfl
@[simp] theorem setEntry_poll (i : Nat) (e : Entry) : (setEntry i e s).poll = s.poll := rfl
@[simp] theorem setEntry_choices (i : Nat) (e : Entry) : (setEntry i e s).choices = s.choices := rfl
@[simp] theorem setEntry_pending (i : Nat) (e : Entry) : (setEntry i e s).pending = s.pending := rfl

/-! Placing a reply changes the link alone (R172). -/

@[simp] theorem placeReply_vdd (f : Frame) : (placeReply f s).vdd = s.vdd := rfl
@[simp] theorem placeReply_backupKept (f : Frame) : (placeReply f s).backupKept = s.backupKept := rfl
@[simp] theorem placeReply_rstnAsserted (f : Frame) : (placeReply f s).rstnAsserted = s.rstnAsserted := rfl
@[simp] theorem placeReply_latnHeld (f : Frame) : (placeReply f s).latnHeld = s.latnHeld := rfl
@[simp] theorem placeReply_lrdyHeld (f : Frame) : (placeReply f s).lrdyHeld = s.lrdyHeld := rfl
@[simp] theorem placeReply_hrdy (f : Frame) : (placeReply f s).hrdy = s.hrdy := rfl
@[simp] theorem placeReply_hbr1 (f : Frame) : (placeReply f s).hbr1 = s.hbr1 := rfl
@[simp] theorem placeReply_hbr0 (f : Frame) : (placeReply f s).hbr0 = s.hbr0 := rfl
@[simp] theorem placeReply_link (f : Frame) : (placeReply f s).link = { s.link with replies := s.link.replies ++ [f] } := rfl
@[simp] theorem placeReply_notices (f : Frame) : (placeReply f s).notices = s.notices := rfl
@[simp] theorem placeReply_cal (f : Frame) : (placeReply f s).cal = s.cal := rfl
@[simp] theorem placeReply_boundaries (f : Frame) : (placeReply f s).boundaries = s.boundaries := rfl
@[simp] theorem placeReply_schedule (f : Frame) : (placeReply f s).schedule = s.schedule := rfl
@[simp] theorem placeReply_reports (f : Frame) : (placeReply f s).reports = s.reports := rfl
@[simp] theorem placeReply_queue (f : Frame) : (placeReply f s).queue = s.queue := rfl
@[simp] theorem placeReply_engine (f : Frame) : (placeReply f s).engine = s.engine := rfl
@[simp] theorem placeReply_stations (f : Frame) : (placeReply f s).stations = s.stations := rfl
@[simp] theorem placeReply_poll (f : Frame) : (placeReply f s).poll = s.poll := rfl
@[simp] theorem placeReply_choices (f : Frame) : (placeReply f s).choices = s.choices := rfl
@[simp] theorem placeReply_pending (f : Frame) : (placeReply f s).pending = s.pending := rfl

/-! Taking over pin levels changes three pins alone. -/

@[simp] theorem withPins_vdd (p : Pins) : (withPins p s).vdd = s.vdd := rfl
@[simp] theorem withPins_backupKept (p : Pins) : (withPins p s).backupKept = s.backupKept := rfl
@[simp] theorem withPins_rstnAsserted (p : Pins) : (withPins p s).rstnAsserted = s.rstnAsserted := rfl
@[simp] theorem withPins_latnHeld (p : Pins) : (withPins p s).latnHeld = s.latnHeld := rfl
@[simp] theorem withPins_lrdyHeld (p : Pins) : (withPins p s).lrdyHeld = p.lrdyHeld := rfl
@[simp] theorem withPins_hrdy (p : Pins) : (withPins p s).hrdy = s.hrdy := rfl
@[simp] theorem withPins_hbr1 (p : Pins) : (withPins p s).hbr1 = p.hbr1 := rfl
@[simp] theorem withPins_hbr0 (p : Pins) : (withPins p s).hbr0 = p.hbr0 := rfl
@[simp] theorem withPins_link (p : Pins) : (withPins p s).link = s.link := rfl
@[simp] theorem withPins_notices (p : Pins) : (withPins p s).notices = s.notices := rfl
@[simp] theorem withPins_cal (p : Pins) : (withPins p s).cal = s.cal := rfl
@[simp] theorem withPins_boundaries (p : Pins) : (withPins p s).boundaries = s.boundaries := rfl
@[simp] theorem withPins_schedule (p : Pins) : (withPins p s).schedule = s.schedule := rfl
@[simp] theorem withPins_reports (p : Pins) : (withPins p s).reports = s.reports := rfl
@[simp] theorem withPins_queue (p : Pins) : (withPins p s).queue = s.queue := rfl
@[simp] theorem withPins_engine (p : Pins) : (withPins p s).engine = s.engine := rfl
@[simp] theorem withPins_stations (p : Pins) : (withPins p s).stations = s.stations := rfl
@[simp] theorem withPins_poll (p : Pins) : (withPins p s).poll = s.poll := rfl
@[simp] theorem withPins_choices (p : Pins) : (withPins p s).choices = s.choices := rfl
@[simp] theorem withPins_pending (p : Pins) : (withPins p s).pending = s.pending := rfl

/-! Taking over LRDY changes one pin alone. -/

@[simp] theorem withLrdy_vdd (held : Bool) : (withLrdy held s).vdd = s.vdd := rfl
@[simp] theorem withLrdy_backupKept (held : Bool) : (withLrdy held s).backupKept = s.backupKept := rfl
@[simp] theorem withLrdy_rstnAsserted (held : Bool) : (withLrdy held s).rstnAsserted = s.rstnAsserted := rfl
@[simp] theorem withLrdy_latnHeld (held : Bool) : (withLrdy held s).latnHeld = s.latnHeld := rfl
@[simp] theorem withLrdy_lrdyHeld (held : Bool) : (withLrdy held s).lrdyHeld = held := rfl
@[simp] theorem withLrdy_hrdy (held : Bool) : (withLrdy held s).hrdy = s.hrdy := rfl
@[simp] theorem withLrdy_hbr1 (held : Bool) : (withLrdy held s).hbr1 = s.hbr1 := rfl
@[simp] theorem withLrdy_hbr0 (held : Bool) : (withLrdy held s).hbr0 = s.hbr0 := rfl
@[simp] theorem withLrdy_link (held : Bool) : (withLrdy held s).link = s.link := rfl
@[simp] theorem withLrdy_notices (held : Bool) : (withLrdy held s).notices = s.notices := rfl
@[simp] theorem withLrdy_cal (held : Bool) : (withLrdy held s).cal = s.cal := rfl
@[simp] theorem withLrdy_boundaries (held : Bool) : (withLrdy held s).boundaries = s.boundaries := rfl
@[simp] theorem withLrdy_schedule (held : Bool) : (withLrdy held s).schedule = s.schedule := rfl
@[simp] theorem withLrdy_reports (held : Bool) : (withLrdy held s).reports = s.reports := rfl
@[simp] theorem withLrdy_queue (held : Bool) : (withLrdy held s).queue = s.queue := rfl
@[simp] theorem withLrdy_engine (held : Bool) : (withLrdy held s).engine = s.engine := rfl
@[simp] theorem withLrdy_stations (held : Bool) : (withLrdy held s).stations = s.stations := rfl
@[simp] theorem withLrdy_poll (held : Bool) : (withLrdy held s).poll = s.poll := rfl
@[simp] theorem withLrdy_choices (held : Bool) : (withLrdy held s).choices = s.choices := rfl
@[simp] theorem withLrdy_pending (held : Bool) : (withLrdy held s).pending = s.pending := rfl

/-! Writing the exchange context changes the engine alone. -/

@[simp] theorem setExchange_vdd (x : Exchange) : (setExchange x s).vdd = s.vdd := rfl
@[simp] theorem setExchange_backupKept (x : Exchange) : (setExchange x s).backupKept = s.backupKept := rfl
@[simp] theorem setExchange_rstnAsserted (x : Exchange) : (setExchange x s).rstnAsserted = s.rstnAsserted := rfl
@[simp] theorem setExchange_latnHeld (x : Exchange) : (setExchange x s).latnHeld = s.latnHeld := rfl
@[simp] theorem setExchange_lrdyHeld (x : Exchange) : (setExchange x s).lrdyHeld = s.lrdyHeld := rfl
@[simp] theorem setExchange_hrdy (x : Exchange) : (setExchange x s).hrdy = s.hrdy := rfl
@[simp] theorem setExchange_hbr1 (x : Exchange) : (setExchange x s).hbr1 = s.hbr1 := rfl
@[simp] theorem setExchange_hbr0 (x : Exchange) : (setExchange x s).hbr0 = s.hbr0 := rfl
@[simp] theorem setExchange_link (x : Exchange) : (setExchange x s).link = s.link := rfl
@[simp] theorem setExchange_notices (x : Exchange) : (setExchange x s).notices = s.notices := rfl
@[simp] theorem setExchange_cal (x : Exchange) : (setExchange x s).cal = s.cal := rfl
@[simp] theorem setExchange_boundaries (x : Exchange) : (setExchange x s).boundaries = s.boundaries := rfl
@[simp] theorem setExchange_schedule (x : Exchange) : (setExchange x s).schedule = s.schedule := rfl
@[simp] theorem setExchange_reports (x : Exchange) : (setExchange x s).reports = s.reports := rfl
@[simp] theorem setExchange_queue (x : Exchange) : (setExchange x s).queue = s.queue := rfl
@[simp] theorem setExchange_engine (x : Exchange) : (setExchange x s).engine = { s.engine with exchange := some x } := rfl
@[simp] theorem setExchange_stations (x : Exchange) : (setExchange x s).stations = s.stations := rfl
@[simp] theorem setExchange_poll (x : Exchange) : (setExchange x s).poll = s.poll := rfl
@[simp] theorem setExchange_choices (x : Exchange) : (setExchange x s).choices = s.choices := rfl
@[simp] theorem setExchange_pending (x : Exchange) : (setExchange x s).pending = s.pending := rfl

/-! Pause pending is a field of the engine. -/

@[simp] theorem setPause_vdd (b : Bool) : (setPause b s).vdd = s.vdd := rfl
@[simp] theorem setPause_backupKept (b : Bool) : (setPause b s).backupKept = s.backupKept := rfl
@[simp] theorem setPause_rstnAsserted (b : Bool) : (setPause b s).rstnAsserted = s.rstnAsserted := rfl
@[simp] theorem setPause_latnHeld (b : Bool) : (setPause b s).latnHeld = s.latnHeld := rfl
@[simp] theorem setPause_lrdyHeld (b : Bool) : (setPause b s).lrdyHeld = s.lrdyHeld := rfl
@[simp] theorem setPause_hrdy (b : Bool) : (setPause b s).hrdy = s.hrdy := rfl
@[simp] theorem setPause_hbr1 (b : Bool) : (setPause b s).hbr1 = s.hbr1 := rfl
@[simp] theorem setPause_hbr0 (b : Bool) : (setPause b s).hbr0 = s.hbr0 := rfl
@[simp] theorem setPause_link (b : Bool) : (setPause b s).link = s.link := rfl
@[simp] theorem setPause_notices (b : Bool) : (setPause b s).notices = s.notices := rfl
@[simp] theorem setPause_cal (b : Bool) : (setPause b s).cal = s.cal := rfl
@[simp] theorem setPause_boundaries (b : Bool) : (setPause b s).boundaries = s.boundaries := rfl
@[simp] theorem setPause_schedule (b : Bool) : (setPause b s).schedule = s.schedule := rfl
@[simp] theorem setPause_reports (b : Bool) : (setPause b s).reports = s.reports := rfl
@[simp] theorem setPause_queue (b : Bool) : (setPause b s).queue = s.queue := rfl
@[simp] theorem setPause_engine (b : Bool) : (setPause b s).engine = { s.engine with pausePending := b } := rfl
@[simp] theorem setPause_stations (b : Bool) : (setPause b s).stations = s.stations := rfl
@[simp] theorem setPause_poll (b : Bool) : (setPause b s).poll = s.poll := rfl
@[simp] theorem setPause_choices (b : Bool) : (setPause b s).choices = s.choices := rfl
@[simp] theorem setPause_pending (b : Bool) : (setPause b s).pending = s.pending := rfl

end Sys2Proof.Machine
end

