-- ==== Sys2Proof/Laws/LineSide.lean ====
section
/-! SUPPORT. What the operations of the line side leave alone: the host link, the pins, the supplies, the calendar and the
waiting commands. One lemma per operation, cited in place of its definition. -/

namespace Sys2Proof.Machine

/-- From s to t nothing changed outside the Notice Unit, the schedule, the queue, the engine, the stations and the Poll Unit. -/
structure LineSide (s t : State) : Prop where
  vdd : t.vdd = s.vdd
  backupKept : t.backupKept = s.backupKept
  rstnAsserted : t.rstnAsserted = s.rstnAsserted
  latnHeld : t.latnHeld = s.latnHeld
  lrdyHeld : t.lrdyHeld = s.lrdyHeld
  hrdy : t.hrdy = s.hrdy
  hbr1 : t.hbr1 = s.hbr1
  hbr0 : t.hbr0 = s.hbr0
  link : t.link = s.link
  cal : t.cal = s.cal
  boundaries : t.boundaries = s.boundaries
  pending : t.pending = s.pending

namespace LineSide

theorem refl (s : State) : LineSide s s := by constructor <;> rfl

theorem trans {s t u : State} (h : LineSide s t) (k : LineSide t u) : LineSide s u :=
  ⟨k.vdd.trans h.vdd, k.backupKept.trans h.backupKept, k.rstnAsserted.trans h.rstnAsserted, k.latnHeld.trans h.latnHeld,
    k.lrdyHeld.trans h.lrdyHeld, k.hrdy.trans h.hrdy, k.hbr1.trans h.hbr1, k.hbr0.trans h.hbr0, k.link.trans h.link,
    k.cal.trans h.cal, k.boundaries.trans h.boundaries, k.pending.trans h.pending⟩

end LineSide

/-- A state with any notices, schedule, reports, queue, engine, stations, poll record and choices stands on the same rest. -/
theorem lineSide_with (s : State) (n : NoticeUnit) (sch : List Entry) (rep : List Completion) (q : DispatchQueue) (e : LineEngine)
    (st : List Station) (p : PollUnit) (c : Nat) :
    LineSide s { s with notices := n, schedule := sch, reports := rep, queue := q, engine := e, stations := st, poll := p,
                        choices := c } := by
  constructor <;> rfl

theorem lineSide_pollSet (s : State) (p : PollUnit) : LineSide s { s with poll := p } := by constructor <;> rfl

theorem lineSide_engineSet (s : State) (e : LineEngine) : LineSide s { s with engine := e } := by constructor <;> rfl

theorem lineSide_queueSet (s : State) (q : DispatchQueue) : LineSide s { s with queue := q } := by constructor <;> rfl

/-! ### Notices, tables, queue -/

theorem lineSide_raise (b : NoticeBody) (s : State) : LineSide s (raise b s) := by constructor <;> rfl

theorem lineSide_setStation (n : Nat) (r : Station) (s : State) : LineSide s (setStation n r s) := by constructor <;> rfl

theorem lineSide_setEntry (i : Nat) (e : Entry) (s : State) : LineSide s (setEntry i e s) := by constructor <;> rfl

theorem lineSide_admission (o : Origin) (t : TxnSpec) (s : State) : LineSide s (admission o t s) := by constructor <;> rfl

theorem lineSide_handCompletion (c : Completion) (s : State) : LineSide s (handCompletion c s) := by
  unfold handCompletion
  split <;> constructor <;> rfl

/-! ### Poll Unit -/

theorem lineSide_pollHoldoff (s : State) : LineSide s (pollHoldoff s) := by constructor <;> rfl

theorem lineSide_pollBuild (s : State) : LineSide s (pollBuild s) := by constructor <;> rfl

theorem lineSide_pollCompleteEnd (seen : Bool) (s : State) : LineSide s (pollCompleteEnd seen s) := by
  unfold pollCompleteEnd
  dsimp only
  repeat' split
  all_goals constructor <;> rfl

theorem lineSide_pollTurn (s : State) : LineSide s (pollTurn s) := by
  unfold pollTurn
  repeat' split
  all_goals first | exact lineSide_pollCompleteEnd _ s | constructor <;> rfl

theorem lineSide_pollTest (s : State) : LineSide s (pollTest s) := by
  unfold pollTest
  split
  · exact (lineSide_pollBuild s).trans (lineSide_pollTurn _)
  · exact .refl s

theorem lineSide_pollEngineStopped (s : State) : LineSide s (pollEngineStopped s) := by
  unfold pollEngineStopped
  split <;> constructor <;> rfl

theorem lineSide_pollStationGone (n : Nat) (s : State) : LineSide s (pollStationGone n s) := by
  unfold pollStationGone
  repeat' split
  · exact .refl s
  · exact .trans (by constructor <;> rfl) (lineSide_pollTurn _)
  · constructor <;> rfl

theorem lineSide_pollService (n : Nat) (last : Option Reply) (s : State) : LineSide s (pollService n last s) := by
  unfold pollService
  repeat' split
  all_goals constructor <;> rfl

theorem lineSide_pollReport (n : Nat) (r : AttemptResult) (last : Option Reply) (s : State) :
    LineSide s (pollReport n r last s) := by
  unfold pollReport
  split
  · exact (lineSide_pollService n last s).trans (lineSide_pollEngineStopped _)
  · exact (lineSide_pollService n last s).trans (.trans (by constructor <;> rfl) (lineSide_pollTurn _))

/-! ### Stations -/

theorem lineSide_stationChanged (n : Nat) (a b : StationState) (s : State) : LineSide s (stationChanged n a b s) := by
  unfold stationChanged
  split
  · exact (lineSide_raise _ s).trans (lineSide_pollStationGone n _)
  · exact lineSide_raise _ s

theorem lineSide_stationReport (n : Nat) (r : Option Reply) (f : Bool) (s : State) : LineSide s (stationReport n r f s) := by
  unfold stationReport
  dsimp only
  split
  · exact lineSide_setStation _ _ s
  · exact (lineSide_setStation _ _ s).trans (lineSide_raise _ _)

/-! ### Line Engine -/

theorem lineSide_beginExchange (k : ExchangeKind) (f : LineFrame) (r : Bool) (s : State) :
    LineSide s (beginExchange k f r s) := by constructor <;> rfl

theorem lineSide_beginAttempt (t : Transaction) (s : State) : LineSide s (beginAttempt t s) := by constructor <;> rfl

theorem lineSide_clearWork (s : State) : LineSide s (clearWork s) := by constructor <;> rfl

theorem lineSide_enterPaused (s : State) : LineSide s (enterPaused s) :=
  .trans (by constructor <;> rfl) (lineSide_pollEngineStopped _)

theorem lineSide_enterFault (s : State) : LineSide s (enterFault s) :=
  .trans (by constructor <;> rfl) (lineSide_pollEngineStopped _)

theorem lineSide_endState (r : AttemptResult) (s : State) : LineSide s (endState r s) := by
  unfold endState
  repeat' split
  · exact lineSide_enterFault s
  · exact lineSide_enterPaused s
  · constructor <;> rfl

theorem lineSide_endReport (r : AttemptResult) (s : State) : LineSide s (endReport r s) := by
  unfold endReport
  split
  · exact lineSide_stationReport _ _ _ s
  · exact .refl s

theorem lineSide_endReferral (o : TxnOutcome) (r : AttemptResult) (s : State) : LineSide s (endReferral o r s) := by
  unfold endReferral
  split
  · exact lineSide_raise _ s
  · exact .refl s

theorem lineSide_endHandOver (o : TxnOutcome) (r : AttemptResult) (s : State) : LineSide s (endHandOver o r s) := by
  unfold endHandOver
  split
  · exact lineSide_handCompletion _ s
  · exact lineSide_pollReport _ _ _ s
  · exact .refl s

theorem lineSide_takeReport (c : Completion) (s : State) : LineSide s (takeReport c s) := by
  unfold takeReport
  split
  · exact .refl s
  · dsimp only
    repeat' split
    all_goals constructor <;> rfl

theorem lineSide_takeReports (s : State) : LineSide s (takeReports s) := by
  have fold : ∀ (l : List Completion) (u : State), LineSide u (l.foldl (fun t c => takeReport c t) u) := by
    intro l
    induction l with
    | nil => exact fun u => .refl u
    | cons c rest ih => exact fun u => (lineSide_takeReport c u).trans (ih _)
  exact .trans (by constructor <;> rfl) (fold _ _)

theorem lineSide_endMember (b s : State) : LineSide s (endMember b s) := by
  unfold endMember
  repeat' split
  · exact lineSide_pollStationGone _ s
  · exact .refl s
  · exact .refl s

theorem lineSide_endReports (r : AttemptResult) (b s : State) : LineSide s (endReports r b s) := by
  unfold endReports
  split
  · exact lineSide_takeReports s
  · exact .refl s

theorem lineSide_endWork (o : TxnOutcome) (r : AttemptResult) (s : State) : LineSide s (endWork o r s) :=
  (lineSide_endReport r s).trans ((lineSide_endReferral o r _).trans ((lineSide_endHandOver o r _).trans
    ((lineSide_endReports r s _).trans ((lineSide_endMember s _).trans ((lineSide_clearWork _).trans (lineSide_endState r _))))))

theorem lineSide_takeWork (t : Transaction) (q : DispatchQueue) (s : State) : LineSide s (takeWork t q s) := by
  constructor <;> rfl

theorem lineSide_completeAtTake (t : Transaction) (o : TxnOutcome) (s : State) : LineSide s (completeAtTake t o s) := by
  have h := (lineSide_handCompletion (s.engine.completion t o) s).trans (lineSide_clearWork _)
  unfold completeAtTake
  dsimp only
  split
  · exact h.trans (lineSide_enterPaused _)
  · exact h.trans (by constructor <;> rfl)

theorem lineSide_startWork (t : Transaction) (s : State) : LineSide s (startWork t s) := by constructor <;> rfl

theorem lineSide_grantPoll (n : Nat) (s : State) : LineSide s (grantPoll n s) := by constructor <;> rfl

theorem lineSide_grantQueue (s : State) : LineSide s (grantQueue s).1 := by
  unfold grantQueue
  split
  · rename_i t q _
    dsimp only
    split
    · exact (lineSide_takeWork t q s).trans (lineSide_completeAtTake _ _ _)
    · exact (lineSide_takeWork t q s).trans (lineSide_startWork _ _)
  · exact lineSide_engineSet s _

theorem lineSide_grantOnce (s : State) : LineSide s (grantOnce s).1 := by
  unfold grantOnce
  repeat' split
  · exact lineSide_grantPoll _ s
  · exact .refl s
  · exact lineSide_grantQueue s
  · exact .refl s

theorem lineSide_grantLoop (fuel : Nat) (s : State) : LineSide s (grantLoop fuel s) := by
  induction fuel generalizing s with
  | zero => exact .refl s
  | succ n ih =>
    unfold grantLoop
    split
    · exact (lineSide_grantOnce s).trans (ih _)
    · exact lineSide_grantOnce s

theorem lineSide_decideGrant (s : State) : LineSide s (decideGrant s) := lineSide_grantLoop _ s

theorem lineSide_takeDecided (s : State) : LineSide s (takeDecided s) := by
  unfold takeDecided
  dsimp only
  repeat' split
  · exact (lineSide_grantQueue s).trans (lineSide_decideGrant _)
  · exact lineSide_grantQueue s
  · exact .refl s

theorem lineSide_finishWork (o : TxnOutcome) (r : AttemptResult) (s : State) : LineSide s (finishWork o r s) :=
  (lineSide_endWork o r s).trans (lineSide_decideGrant _)

theorem lineSide_openReferral (x : Exchange) (r : Reply) (s : State) : LineSide s (openReferral x r s) := by
  constructor <;> rfl

theorem lineSide_beginVerdict (c : Closing) (s : State) : LineSide s (beginVerdict c s) := by
  unfold beginVerdict
  split <;> constructor <;> rfl

theorem lineSide_closeReferral (r : Referral) (c : Closure) (a : List Byte) (s : State) : LineSide s (closeReferral r c a s) :=
  .trans (by constructor <;> rfl) (lineSide_beginVerdict _ _)

theorem lineSide_noteReply (r : Reply) (s : State) : LineSide s (noteReply r s) := by constructor <;> rfl

theorem lineSide_beginWait (w : Wait) (s : State) : LineSide s (beginWait w s) := by constructor <;> rfl

theorem lineSide_attemptEnd (t : Transaction) (x : Exchange) (r : AttemptResult) (s : State) :
    LineSide s (attemptEnd t x r s) := by
  unfold attemptEnd
  split
  · rename_i y
    have h := lineSide_noteReply y s
    dsimp only
    split
    · exact h.trans (lineSide_finishWork _ _ _)
    · exact h.trans (lineSide_finishWork _ _ _)
    · split
      · exact h.trans (lineSide_beginWait _ _)
      · exact h.trans (lineSide_finishWork _ _ _)
    · exact h.trans (lineSide_openReferral _ _ _)
  · exact lineSide_finishWork _ _ _
  · split
    · exact lineSide_beginWait _ _
    · exact lineSide_finishWork _ _ _
  · exact lineSide_finishWork _ _ _

theorem lineSide_pollEnd (x : Exchange) (r : AttemptResult) (s : State) : LineSide s (pollEnd x r s) := by
  unfold pollEnd
  repeat' split
  · exact (lineSide_noteReply _ s).trans (lineSide_openReferral _ _ _)
  · exact (lineSide_noteReply _ s).trans (lineSide_finishWork _ _ _)
  all_goals exact lineSide_finishWork _ _ _

theorem lineSide_verdictEnd (r : AttemptResult) (s : State) : LineSide s (verdictEnd r s) := by
  unfold verdictEnd
  cases r with
  | reply y => exact (lineSide_noteReply y s).trans (lineSide_finishWork _ _ _)
  | sent => exact lineSide_finishWork _ _ _
  | failed f => exact lineSide_finishWork _ _ _
  | lineFault => exact lineSide_finishWork _ _ _

/-- The end of an exchange and all that follows it. -/
theorem lineSide_endExchange (x : Exchange) (r : AttemptResult) (s : State) : LineSide s (endExchange x r s) := by
  have h : LineSide s { s with engine := { s.engine with
      exchange := none, counters := countResult x.kind r s.engine.counters } } := by constructor <;> rfl
  unfold endExchange
  dsimp only
  split
  · split
    · exact h.trans (lineSide_attemptEnd _ _ _ _)
    · exact h
  · exact h.trans (lineSide_pollEnd _ _ _)
  · exact h.trans (lineSide_verdictEnd _ _)
  · exact h.trans (lineSide_verdictEnd _ _)

/-! ### Schedule Unit -/

theorem lineSide_fireEntry (ev : SecondBoundary) (i : Nat) (s : State) : LineSide s (fireEntry ev i s) := by
  unfold fireEntry
  dsimp only
  repeat' split
  all_goals constructor <;> rfl

/-- No event between the claims leaves the state to the scan. -/
@[simp] theorem takeBetween_nil (i : Nat) (s : State) : takeBetween [] i s = s := rfl

/-- The events that come as the scan has dealt with an entry: first the one given first, then the rest. -/
theorem takeBetween_cons (b : Between) (rest : List Between) (i : Nat) (s : State) :
    takeBetween (b :: rest) i s = takeBetween rest i (if b.entry = i then afterBetween b.event s else s) := by
  unfold takeBetween
  by_cases h : b.entry = i <;> simp [h]

/-- An event between two claims leaves the state, or has its effect and leaves the evaluation whole. -/
theorem afterBetween_cases (e : BetweenEvent) (s : State) :
    afterBetween e s = s ∨
      (execBetween e s = .next (afterBetween e s) ∧ leavesEvaluationWhole s (afterBetween e s) = true) := by
  unfold afterBetween
  cases h : execBetween e s with
  | next t =>
    dsimp only
    split
    · rename_i g
      exact .inr ⟨rfl, (Bool.and_eq_true _ _ ▸ g).2⟩
    · exact .inl rfl
  | fault f => exact .inl rfl
  | refused r => exact .inl rfl

/-- A scan that no event interrupts. -/
theorem lineSide_scanEntries (ev : SecondBoundary) (l : List Nat) (s : State) : LineSide s (scanEntries ev [] l s) := by
  induction l generalizing s with
  | nil => exact .refl s
  | cons i rest ih =>
    unfold scanEntries
    rw [takeBetween_nil]
    split
    · exact (lineSide_fireEntry ev i s).trans (ih _)
    · exact ih s

/-- One evaluation that no event interrupts, its grant decision included. -/
theorem lineSide_evaluate (ev : SecondBoundary) (s : State) : LineSide s (evaluate ev [] s) :=
  (lineSide_scanEntries ev _ s).trans (lineSide_decideGrant _)

end Sys2Proof.Machine
end

