-- ==== Sys2Proof/Laws/HostLink.lean ====
section
/-! SUPPORT. The host link as the other proofs use it: what a request does to the link, what a request command answers when a
reply slot is free, what serving the link does when no frame waits. -/

namespace Sys2Proof.Machine

/-! ### Starts -/

theorem lineSide_start (k : StartKind) (s : State) : LineSide (startBlocks k s) (start k s) :=
  (lineSide_raise _ _).trans (lineSide_pollTest _)

/-- A start leaves the link at the values of Table 10-6 (R181). -/
theorem start_link (k : StartKind) (s : State) : (start k s).link = s.link.started k (strapRate s.hbr1 s.hbr0) :=
  (lineSide_start k s).link

/-- A start empties the intake queue (R181). -/
theorem started_intake (k : StartKind) (r : HostRate) (l : HostLink) : (l.started k r).intake = [] := by
  cases k <;> rfl

/-! ### The owning block's answer changes no waiting frame -/

theorem lineSide_decideThenPresent (s : State) : LineSide s (decideThenPresent s) := by
  have h := (lineSide_grantOnce s).trans (lineSide_pollTest _)
  unfold decideThenPresent
  dsimp only
  split
  · exact h.trans ((lineSide_pollSet _ _).trans (lineSide_decideGrant _))
  · exact h

theorem lineSide_resumeIdle (s : State) : LineSide s (resumeIdle s) := by
  have h : LineSide s { s with engine := { s.engine with state := .idle } } := lineSide_engineSet s _
  have k : LineSide s { s with engine := { s.engine with state := .idle }, choices := s.choices + 1 } := by
    constructor <;> rfl
  unfold resumeIdle
  dsimp only
  split
  · split
    · exact k.trans ((lineSide_pollTest _).trans ((lineSide_pollSet _ _).trans (lineSide_decideGrant _)))
    · exact k.trans (lineSide_decideThenPresent _)
  · exact h.trans (lineSide_decideGrant _)

/-- BUS-SEND leaves the link to the interpreter. -/
theorem lineSide_answerBusSend (body : List Byte) (s : State) : LineSide s (answerBusSend body s).state := by
  unfold answerBusSend
  dsimp only
  repeat' split
  all_goals first | exact .refl s | exact (lineSide_admission _ _ s).trans (lineSide_decideGrant _)

theorem lineSide_answerBusCancel (body : List Byte) (s : State) : LineSide s (answerBusCancel body s).state := by
  unfold answerBusCancel
  dsimp only
  repeat' split
  all_goals dsimp only [accept, refuse]
  all_goals first
    | exact .refl s
    | exact lineSide_closeReferral _ _ _ s
    | exact (lineSide_queueSet s _).trans (lineSide_handCompletion _ _)

theorem lineSide_answerBusPause (body : List Byte) (s : State) : LineSide s (answerBusPause body s).state := by
  unfold answerBusPause
  repeat' split
  all_goals first | exact .refl s | exact lineSide_enterPaused s | exact lineSide_engineSet s _

theorem lineSide_answerBusResume (body : List Byte) (s : State) : LineSide s (answerBusResume body s).state := by
  unfold answerBusResume
  repeat' split
  all_goals dsimp only [accept, refuse]
  all_goals first
    | exact .refl s
    | exact lineSide_resumeIdle s
    | exact (lineSide_raise _ s).trans (lineSide_resumeIdle _)
    | exact lineSide_engineSet s _

theorem lineSide_answerRefAnswer (body : List Byte) (s : State) : LineSide s (answerRefAnswer body s).state := by
  unfold answerRefAnswer
  repeat' split
  all_goals dsimp only [accept, refuse]
  all_goals first | exact .refl s | exact lineSide_closeReferral _ _ _ s

theorem lineSide_stationWrite (n : Nat) (r : Station) (a b : StationState) (s : State) :
    LineSide s (stationChanged n a b (setStation n r s)) :=
  (lineSide_setStation n r s).trans (lineSide_stationChanged n a b _)

theorem lineSide_answerStnDefine (body : List Byte) (s : State) : LineSide s (answerStnDefine body s).state := by
  unfold answerStnDefine
  repeat' split
  all_goals dsimp only [accept, refuse]
  all_goals first | exact .refl s | exact lineSide_stationWrite _ _ _ _ s

theorem lineSide_answerStnForget (body : List Byte) (s : State) : LineSide s (answerStnForget body s).state := by
  unfold answerStnForget
  repeat' split
  all_goals dsimp only [accept, refuse]
  all_goals first | exact .refl s | exact lineSide_stationWrite _ _ _ _ s

theorem lineSide_answerStnRestore (body : List Byte) (s : State) : LineSide s (answerStnRestore body s).state := by
  unfold answerStnRestore
  repeat' split
  all_goals dsimp only [accept, refuse]
  all_goals first | exact .refl s | exact lineSide_stationWrite _ _ _ _ s

/-- A request at its owning block leaves an empty intake queue empty (R172). -/
theorem answerOwner_intake (k : RequestKind) (body : List Byte) (s : State) (h : s.link.intake = []) :
    (answerOwner k body s).state.link.intake = [] := by
  cases k <;> simp only [answerOwner]
  case busSend => rw [(lineSide_answerBusSend body s).link, h]
  case busCancel => rw [(lineSide_answerBusCancel body s).link, h]
  case busPause => rw [(lineSide_answerBusPause body s).link, h]
  case busResume => rw [(lineSide_answerBusResume body s).link, h]
  case refAnswer => rw [(lineSide_answerRefAnswer body s).link, h]
  case stnDefine => rw [(lineSide_answerStnDefine body s).link, h]
  case stnForget => rw [(lineSide_answerStnForget body s).link, h]
  case stnRestore => rw [(lineSide_answerStnRestore body s).link, h]
  case resetPart =>
    unfold answerResetPart
    repeat' split
    · exact (congrArg HostLink.intake (start_link _ s)).trans (started_intake _ _ _)
    · exact h
    · exact h
  case getInfo => unfold answerGetInfo; split <;> exact h
  case getStatus => unfold answerGetStatus; split <;> exact h
  case getStats =>
    unfold answerGetStats
    split
    · split
      · rename_i clear _
        cases clear <;> exact h
      · exact h
    · exact h
  case calRead => unfold answerCalRead; split <;> exact h
  case calSet => unfold answerCalSet; repeat' split <;> first | exact h | skip
  case calRun => unfold answerCalRun; repeat' split <;> first | exact h | skip
  case calStop =>
    unfold answerCalStop
    split
    · dsimp only [accept]; split <;> exact h
    · exact h
  case calClear => unfold answerCalClear; repeat' split <;> first | exact h | skip
  case schWrite => unfold answerSchWrite; repeat' split <;> first | exact h | skip
  case schRead => unfold answerSchRead; repeat' split <;> first | exact h | skip
  case schEnable => unfold answerSchEnable; repeat' split <;> first | exact h | skip
  case schDisable => unfold answerSchDisable; repeat' split <;> first | exact h | skip
  case schDelete => unfold answerSchDelete; repeat' split <;> first | exact h | skip
  case schList => unfold answerSchList; split <;> exact h
  case stnRead => unfold answerStnRead; repeat' split <;> first | exact h | skip
  case lineConfig => unfold answerLineConfig; repeat' split <;> first | exact h | skip
  case configRead => unfold answerConfigRead; split <;> exact h
  case noteAck =>
    unfold answerNoteAck
    repeat' split
    · dsimp only [accept, reportLost]; split <;> exact h
    · exact h
    · exact h
  case noteFetch => unfold answerNoteFetch; repeat' split <;> first | exact h | skip
  case noteReplay => unfold answerNoteReplay; split <;> exact h
  case noteConfig => unfold answerNoteConfig; repeat' split <;> first | exact h | skip

/-- A request leaves an empty intake queue empty (R172). -/
theorem answerRequest_intake (k : RequestKind) (body : List Byte) (s : State) (h : s.link.intake = []) :
    (answerRequest k body s).state.link.intake = [] := by
  unfold answerRequest
  split
  · exact answerOwner_intake k body s h
  · exact h

/-- A frame served leaves an empty intake queue empty (R172). -/
theorem serveFrame_intake (f : Frame) (s : State) (h : s.link.intake = []) : (serveFrame f s).link.intake = [] := by
  unfold serveFrame
  split
  · exact answerRequest_intake _ _ s h
  · exact h

/-! ### The transmitter and the interpreter -/

/-- The transmitter's decision moves no waiting frame (R175). -/
@[simp] theorem transmit_intake (s : State) : (transmit s).link.intake = s.link.intake := by
  unfold transmit
  repeat' split
  all_goals rfl

/-- With no frame waiting the interpreter takes nothing (R172). -/
theorem interpret_empty (fuel : Nat) (s : State) (h : s.link.intake = []) : interpret fuel s = s := by
  cases fuel with
  | zero => rfl
  | succ n => unfold interpret; rw [h]

/-- With the reply queue full the interpreter takes nothing (R172). -/
theorem interpret_full (fuel : Nat) (s : State) (h : Config.replyCapacity ≤ s.link.replies.length) : interpret fuel s = s := by
  cases fuel with
  | zero => rfl
  | succ n =>
    unfold interpret
    split
    · rw [if_neg (by omega)]
    · rfl

/-- Serving the link with no frame waiting is the transmitter's decision (R175). -/
theorem serveLink_empty (s : State) (on : s.linkOn = true) (h : s.link.intake = []) : serveLink s = transmit s := by
  unfold serveLink
  rw [if_pos on, interpret_empty _ s h]
  exact interpret_empty _ _ (by rw [transmit_intake, h])

/-- While the link is off nothing is served (R181). -/
theorem serveLink_off (s : State) (off : s.linkOn = false) : serveLink s = s := by
  unfold serveLink
  rw [off]
  rfl

/-- A frame that finds no other waiting and a free reply slot is served at once, and then the transmitter decides (R172,
R175). -/
theorem goodFrame_ready (f : Frame) (s : State) (h : LinkReady s) : goodFrame f s = transmit (serveFrame f s) := by
  have p : placeFrame f s = { s with link := { s.link with intake := [f] } } := by
    unfold placeFrame
    rw [h.intake, if_pos (by decide)]
    rfl
  have back : ({ s with link := { s.link with intake := [] } } : State) = s := by
    rw [← h.intake]
  have one : interpret ([f] : List Frame).length (placeFrame f s) = serveFrame f s := by
    rw [p]
    show interpret 1 _ = _
    unfold interpret
    dsimp only
    rw [if_pos h.slot, back]
    rfl
  have i : (serveFrame f s).link.intake = [] := serveFrame_intake f s h.intake
  unfold goodFrame serveLink
  have on : (placeFrame f s).linkOn = true := by rw [p]; exact h.on
  rw [if_pos h.on, if_pos on]
  have len : (placeFrame f s).link.intake.length = ([f] : List Frame).length := by rw [p]
  dsimp only
  rw [len, one]
  exact interpret_empty _ _ (by rw [transmit_intake, i])

/-- The request kind of its own code (Table 10-3). -/
theorem ofCode_code (k : RequestKind) : RequestKind.ofCode k.code = some k := by cases k <;> rfl

/-- What a request command does when its frame is taken at once: the answer's state, with the reply placed, and the
transmitter's decision. -/
theorem hostRequest_ready (k : RequestKind) (tag : Byte) (body : List Byte) (s : State) (h : LinkReady s) :
    hostRequest k tag body s =
      answered k.code tag (answerRequest k body s).status (answerRequest k body s).data (answerRequest k body s).state := by
  unfold hostRequest
  rw [goodFrame_ready _ s h]
  unfold serveFrame
  rw [ofCode_code]
  rfl

/-- A request whose body fits its kind is answered by its owning block (R173 step 3). -/
theorem answerRequest_fits (k : RequestKind) (body : List Byte) (s : State) (h : bodyFits k body = true) :
    answerRequest k body s = answerOwner k body s := by
  unfold answerRequest
  rw [if_pos h]

end Sys2Proof.Machine
end

