-- ==== Sys2Proof/WellFormed.lean ====
section
/-! DEFINITION. Which commands can arise: a request frame's body is at most 64 bytes (R167), and the row UNKNOWN_KIND stands
for kind bytes that are no request code (R173); an event between two claims comes at one of the 40 entries, is no request on
the schedule table and no RESET-PART (R135), and its body fits a frame too. -/

namespace Sys2Proof

/-- A body that fits one frame (R167: payload 2 to 66 bytes, kind and tag included). -/
def bodyFitsFrame (body : List Byte) : Bool := body.length ≤ Config.maxBody

/-- The body of the request frame that comes with an event, if one does, fits its frame. -/
def BetweenEvent.bodyFits : BetweenEvent → Bool
  | .cancelDecided _ b _ => bodyFitsFrame b
  | .request _ _ b _ => bodyFitsFrame b
  | .unknownKind _ _ b => bodyFitsFrame b
  | .take _ | .hrdyAsserted _ | .hrdyDeasserted | .transmitFrameEnd _
  | .oscillatorEdge | .settleTimerExpiry | .oscLoss | .tick
  | .lrdyReleased | .lineStuckExpiry | .readyTimerExpiry _ | .frameByteSent _ | .turnHoldExpiry _
  | .replyWindowExpiry _ | .replyByteReceived _ _ | .lineRestExpiry _ | .busyBackoffExpiry _
  | .holdTimerExpiry _ | .latnHeld | .latnReleased | .pollHoldoffExpiry | .pollRequestPresented _ => true

/-- The event can come between two claims of an evaluation. -/
def BetweenEvent.wellFormed (e : BetweenEvent) : Bool := e.bodyFits && e.besideEvaluation

/-- The command can arise on the HZ316. -/
def Instr.wellFormed : Instr → Bool
  | .getInfo _ b | .getStatus _ b | .getStats _ b | .resetPart _ b _
  | .calRead _ b | .calSet _ b | .calRun _ b | .calStop _ b | .calClear _ b
  | .schWrite _ b | .schRead _ b | .schEnable _ b | .schDisable _ b | .schDelete _ b | .schList _ b
  | .stnDefine _ b | .stnRead _ b | .stnForget _ b | .stnRestore _ b
  | .busSend _ b _ | .busCancel _ b _ | .busPause _ b | .busResume _ b _
  | .lineConfig _ b | .configRead _ b | .refAnswer _ b _
  | .noteAck _ b | .noteFetch _ b | .noteReplay _ b | .noteConfig _ b => bodyFitsFrame b
  | .unknownKind k _ b => bodyFitsFrame b && (RequestKind.ofCode k).isNone
  | .scheduleEvaluation _ between => between.all (fun b => b.entry < Config.entryCount && b.event.wellFormed)
  | .hostByteReceived _ _ | .gapTimerExpiry | .hrdyAsserted _ | .hrdyDeasserted | .transmitFrameEnd _
  | .powerUp _ | .powerLoss | .backupLoss | .rstnAsserted | .pinStart _
  | .oscillatorEdge | .settleTimerExpiry | .oscLoss | .tick
  | .completionReport
  | .lrdyReleased | .lineStuckExpiry | .readyTimerExpiry _ | .frameByteSent _ | .turnHoldExpiry _
  | .replyWindowExpiry _ | .replyByteReceived _ _ | .lineRestExpiry _ | .busyBackoffExpiry _
  | .holdTimerExpiry _ | .latnHeld | .latnReleased | .pollHoldoffExpiry | .pollRequestPresented _ => true

/-- The payload of the request frame a request command stands for: kind, tag and body (R167); the events carry none. -/
def Instr.payload : Instr → Option (List Byte)
  | .getInfo t b => some (RequestKind.getInfo.code :: t :: b)
  | .getStatus t b => some (RequestKind.getStatus.code :: t :: b)
  | .getStats t b => some (RequestKind.getStats.code :: t :: b)
  | .resetPart t b _ => some (RequestKind.resetPart.code :: t :: b)
  | .calRead t b => some (RequestKind.calRead.code :: t :: b)
  | .calSet t b => some (RequestKind.calSet.code :: t :: b)
  | .calRun t b => some (RequestKind.calRun.code :: t :: b)
  | .calStop t b => some (RequestKind.calStop.code :: t :: b)
  | .calClear t b => some (RequestKind.calClear.code :: t :: b)
  | .schWrite t b => some (RequestKind.schWrite.code :: t :: b)
  | .schRead t b => some (RequestKind.schRead.code :: t :: b)
  | .schEnable t b => some (RequestKind.schEnable.code :: t :: b)
  | .schDisable t b => some (RequestKind.schDisable.code :: t :: b)
  | .schDelete t b => some (RequestKind.schDelete.code :: t :: b)
  | .schList t b => some (RequestKind.schList.code :: t :: b)
  | .stnDefine t b => some (RequestKind.stnDefine.code :: t :: b)
  | .stnRead t b => some (RequestKind.stnRead.code :: t :: b)
  | .stnForget t b => some (RequestKind.stnForget.code :: t :: b)
  | .stnRestore t b => some (RequestKind.stnRestore.code :: t :: b)
  | .busSend t b _ => some (RequestKind.busSend.code :: t :: b)
  | .busCancel t b _ => some (RequestKind.busCancel.code :: t :: b)
  | .busPause t b => some (RequestKind.busPause.code :: t :: b)
  | .busResume t b _ => some (RequestKind.busResume.code :: t :: b)
  | .lineConfig t b => some (RequestKind.lineConfig.code :: t :: b)
  | .configRead t b => some (RequestKind.configRead.code :: t :: b)
  | .refAnswer t b _ => some (RequestKind.refAnswer.code :: t :: b)
  | .noteAck t b => some (RequestKind.noteAck.code :: t :: b)
  | .noteFetch t b => some (RequestKind.noteFetch.code :: t :: b)
  | .noteReplay t b => some (RequestKind.noteReplay.code :: t :: b)
  | .noteConfig t b => some (RequestKind.noteConfig.code :: t :: b)
  | .unknownKind k t b => some (k :: t :: b)
  | .hostByteReceived _ _ | .gapTimerExpiry | .hrdyAsserted _ | .hrdyDeasserted | .transmitFrameEnd _
  | .powerUp _ | .powerLoss | .backupLoss | .rstnAsserted | .pinStart _ | .oscillatorEdge | .settleTimerExpiry
  | .oscLoss | .tick | .scheduleEvaluation _ _ | .completionReport | .lrdyReleased | .lineStuckExpiry
  | .readyTimerExpiry _ | .frameByteSent _ | .turnHoldExpiry _ | .replyWindowExpiry _ | .replyByteReceived _ _
  | .lineRestExpiry _ | .busyBackoffExpiry _ | .holdTimerExpiry _ | .latnHeld | .latnReleased
  | .pollHoldoffExpiry | .pollRequestPresented _ => none

end Sys2Proof
end

