-- ==== Sys2Proof/Laws/PerInstr.lean ====
section
/-! SUPPORT. Per command: a well-formed command's request frame has a payload of 2 to 66 bytes, and a body that its frame can
carry (R167). -/

namespace Sys2Proof.Laws.Fits

/-- The payload of a well-formed command's frame, where it has one, is kind, tag and a body of at most 64 bytes. -/
def Statement (i : Instr) : Prop :=
  i.wellFormed = true → ∀ p, i.payload = some p → ∃ kind tag body, p = kind :: tag :: body ∧ body.length ≤ Config.maxBody

/-- A command whose payload is kind, tag and a body that fits. -/
theorem of_body {i : Instr} {kind tag : Byte} {body : List Byte} (h : i.payload = some (kind :: tag :: body))
    (fits : i.wellFormed = true → bodyFitsFrame body = true) : Statement i := by
  intro w p hp
  obtain rfl := Option.some.inj (h.symm.trans hp)
  exact ⟨kind, tag, body, rfl, of_decide_eq_true (fits w)⟩

/-- An event has no payload. -/
theorem of_event {i : Instr} (h : i.payload = none) : Statement i := by
  intro _ p hp
  rw [h] at hp
  exact nomatch hp

theorem getInfo (tag : Byte) (body : List Byte) : Statement (.getInfo tag body) := of_body rfl id
theorem getStatus (tag : Byte) (body : List Byte) : Statement (.getStatus tag body) := of_body rfl id
theorem getStats (tag : Byte) (body : List Byte) : Statement (.getStats tag body) := of_body rfl id
theorem resetPart (tag : Byte) (body : List Byte) (pins : Pins) : Statement (.resetPart tag body pins) := of_body rfl id
theorem calRead (tag : Byte) (body : List Byte) : Statement (.calRead tag body) := of_body rfl id
theorem calSet (tag : Byte) (body : List Byte) : Statement (.calSet tag body) := of_body rfl id
theorem calRun (tag : Byte) (body : List Byte) : Statement (.calRun tag body) := of_body rfl id
theorem calStop (tag : Byte) (body : List Byte) : Statement (.calStop tag body) := of_body rfl id
theorem calClear (tag : Byte) (body : List Byte) : Statement (.calClear tag body) := of_body rfl id
theorem schWrite (tag : Byte) (body : List Byte) : Statement (.schWrite tag body) := of_body rfl id
theorem schRead (tag : Byte) (body : List Byte) : Statement (.schRead tag body) := of_body rfl id
theorem schEnable (tag : Byte) (body : List Byte) : Statement (.schEnable tag body) := of_body rfl id
theorem schDisable (tag : Byte) (body : List Byte) : Statement (.schDisable tag body) := of_body rfl id
theorem schDelete (tag : Byte) (body : List Byte) : Statement (.schDelete tag body) := of_body rfl id
theorem schList (tag : Byte) (body : List Byte) : Statement (.schList tag body) := of_body rfl id
theorem stnDefine (tag : Byte) (body : List Byte) : Statement (.stnDefine tag body) := of_body rfl id
theorem stnRead (tag : Byte) (body : List Byte) : Statement (.stnRead tag body) := of_body rfl id
theorem stnForget (tag : Byte) (body : List Byte) : Statement (.stnForget tag body) := of_body rfl id
theorem stnRestore (tag : Byte) (body : List Byte) : Statement (.stnRestore tag body) := of_body rfl id
theorem busSend (tag : Byte) (body : List Byte) (lrdyHeld : Bool) : Statement (.busSend tag body lrdyHeld) := of_body rfl id
theorem busCancel (tag : Byte) (body : List Byte) (lrdyHeld : Bool) : Statement (.busCancel tag body lrdyHeld) := of_body rfl id
theorem busPause (tag : Byte) (body : List Byte) : Statement (.busPause tag body) := of_body rfl id
theorem busResume (tag : Byte) (body : List Byte) (lrdyHeld : Bool) : Statement (.busResume tag body lrdyHeld) := of_body rfl id
theorem lineConfig (tag : Byte) (body : List Byte) : Statement (.lineConfig tag body) := of_body rfl id
theorem configRead (tag : Byte) (body : List Byte) : Statement (.configRead tag body) := of_body rfl id
theorem refAnswer (tag : Byte) (body : List Byte) (lrdyHeld : Bool) : Statement (.refAnswer tag body lrdyHeld) := of_body rfl id
theorem noteAck (tag : Byte) (body : List Byte) : Statement (.noteAck tag body) := of_body rfl id
theorem noteFetch (tag : Byte) (body : List Byte) : Statement (.noteFetch tag body) := of_body rfl id
theorem noteReplay (tag : Byte) (body : List Byte) : Statement (.noteReplay tag body) := of_body rfl id
theorem noteConfig (tag : Byte) (body : List Byte) : Statement (.noteConfig tag body) := of_body rfl id
theorem unknownKind (kind : Byte) (tag : Byte) (body : List Byte) : Statement (.unknownKind kind tag body) := of_body rfl (fun w => (Bool.and_eq_true_iff.mp w).1)
theorem hostByteReceived (b : Byte) (pins : Pins) : Statement (.hostByteReceived b pins) := of_event rfl
theorem gapTimerExpiry : Statement .gapTimerExpiry := of_event rfl
theorem hrdyAsserted (pins : Pins) : Statement (.hrdyAsserted pins) := of_event rfl
theorem hrdyDeasserted : Statement .hrdyDeasserted := of_event rfl
theorem transmitFrameEnd (pins : Pins) : Statement (.transmitFrameEnd pins) := of_event rfl
theorem powerUp (pins : Pins) : Statement (.powerUp pins) := of_event rfl
theorem powerLoss : Statement .powerLoss := of_event rfl
theorem backupLoss : Statement .backupLoss := of_event rfl
theorem rstnAsserted : Statement .rstnAsserted := of_event rfl
theorem pinStart (pins : Pins) : Statement (.pinStart pins) := of_event rfl
theorem oscillatorEdge : Statement .oscillatorEdge := of_event rfl
theorem settleTimerExpiry : Statement .settleTimerExpiry := of_event rfl
theorem oscLoss : Statement .oscLoss := of_event rfl
theorem tick : Statement .tick := of_event rfl
theorem scheduleEvaluation (lrdyHeld : Bool) (between : List Between) :
    Statement (.scheduleEvaluation lrdyHeld between) := of_event rfl
theorem completionReport : Statement .completionReport := of_event rfl
theorem lrdyReleased : Statement .lrdyReleased := of_event rfl
theorem lineStuckExpiry : Statement .lineStuckExpiry := of_event rfl
theorem readyTimerExpiry (lrdyHeld : Bool) : Statement (.readyTimerExpiry lrdyHeld) := of_event rfl
theorem frameByteSent (lrdyHeld : Bool) : Statement (.frameByteSent lrdyHeld) := of_event rfl
theorem turnHoldExpiry (lrdyHeld : Bool) : Statement (.turnHoldExpiry lrdyHeld) := of_event rfl
theorem replyWindowExpiry (lrdyHeld : Bool) : Statement (.replyWindowExpiry lrdyHeld) := of_event rfl
theorem replyByteReceived (b : Byte) (lrdyHeld : Bool) : Statement (.replyByteReceived b lrdyHeld) := of_event rfl
theorem lineRestExpiry (lrdyHeld : Bool) : Statement (.lineRestExpiry lrdyHeld) := of_event rfl
theorem busyBackoffExpiry (lrdyHeld : Bool) : Statement (.busyBackoffExpiry lrdyHeld) := of_event rfl
theorem holdTimerExpiry (lrdyHeld : Bool) : Statement (.holdTimerExpiry lrdyHeld) := of_event rfl
theorem latnHeld : Statement .latnHeld := of_event rfl
theorem latnReleased : Statement .latnReleased := of_event rfl
theorem pollHoldoffExpiry : Statement .pollHoldoffExpiry := of_event rfl
theorem pollRequestPresented (lrdyHeld : Bool) : Statement (.pollRequestPresented lrdyHeld) := of_event rfl

end Sys2Proof.Laws.Fits
end

