-- ==== Sys2Proof/Tests/Slice0.lean ====
section
/-! SUPPORT. Tests: the WellFormed smoke, words and figures of the spec run through the model, and for each obligation with
hypotheses a state and operands that meet them (`meets_…`), at the ends of their ranges. -/

namespace Sys2Proof.Tests.Slice0

open Sys2Proof.Machine

/-! ### Small states -/

/-- The state a command leads to. -/
def after (c : Instr) (s : State) : State :=
  match exec c s with
  | .next t => t
  | .fault _ => s
  | .refused _ => s

/-- The machine right after reset, with the engine changed. -/
def withEngine (f : LineEngine → LineEngine) : State := { State.reset with engine := f State.reset.engine }

/-- The engine in a state. -/
def inState (e : EngineState) : State := withEngine (fun x => { x with state := e })

/-- The calendar RUNNING on a stable oscillator, one tick before second 59 ends, with a valid time. -/
def clock : Calendar :=
  { fraction := 255, second := 59, minute := 59, hour := 23, day := 65535, running := true, timeValid := true,
    oscStable := true, monitor := .stable, settleTimer := none, monitorTimer := some 4, divider := 127 }

/-- A NORMAL transaction to station 1. -/
def toStation : TxnSpec :=
  { cls := .normal, dest := .station 1, subUnit := none, command := 0x02#8, args := [0x10#8], retryLimit := 3 }

/-- An URGENT transaction to group 7 with the greatest fields. -/
def toGroup : TxnSpec :=
  { cls := .urgent, dest := .group 7, subUnit := none, command := 0xEF#8, args := List.replicate 8 0xFF#8, retryLimit := 3 }

/-- A live transaction. -/
def txn (ticket : Nat) (o : Origin) (t : TxnSpec) : Transaction := { ticket := ticket, origin := o, spec := t, admitted := none }

/-- A defined station in a state. -/
def stn (st : StationState) : Station := { Station.cleared with state := st, pollable := true }

/-- Station 1 in a state, after reset. -/
def station1 (st : StationState) : State := setStation 1 (stn st) State.reset

/-- Entry 39 in a state, after reset. -/
def entry39 (st : EntryState) : State := setEntry 39 { Entry.cleared 255 with state := st } State.reset

/-- An exchange of the attempt of `toStation` in a phase. -/
def exchange (k : ExchangeKind) (p : Phase) : Exchange :=
  { kind := k, frame := LineFrame.build (.station 1) none 0x02#8 [0x10#8], replyExpected := true, phase := p, bytesSent := 0,
    replySoFar := [], lineStuck := none, ready := none, turnHold := none, replyWindow := none }

/-- The engine ACTIVE on transaction 5 to station 1, with an exchange. -/
def active (x : Option Exchange) : State :=
  withEngine (fun e => { e with
    state := .active, work := some (.transaction (txn 5 .host toStation)), station := some 1, attempts := 1, exchange := x })

/-- A referral of transaction 5. -/
def referral : Referral :=
  { id := 255, station := 1, subUnit := none, origin := .ticket 5, questionStatus := 0x80#8, questionData := [],
    opened := none, holdTimer := 5 }

/-- The engine HELD on transaction 5 with its referral open. -/
def held : State :=
  withEngine (fun e => { e with
    state := .held, work := some (.transaction (txn 5 .host toStation)), station := some 1, attempts := 1,
    lastReply := some { cls := .query, status := 0x80#8, data := [] }, referral := some referral })

/-- The Poll Unit CYCLING with the members given still to be polled. -/
def cycling (remaining : List Nat) (inFlight : Option Nat) (r : RequestStage) (seen : Bool) : State :=
  { State.reset with
    latnHeld := true
    poll := { PollUnit.initial with
      state := .cycling
      cycle := some { remaining := remaining, inFlight := inFlight, request := r, serviceSeen := seen } } }

/-- Pins all released, straps low. -/
def low : Pins := { lrdyHeld := false, hbr1 := false, hbr0 := false }

/-- The notice queue full, with 3 lost. -/
def fullNotices : State :=
  { State.reset with notices := { State.reset.notices with
      queue := (List.range 16).map (fun i => { seq := 240 + i, timestamp := none, body := .noticeLost 1, transmitted := false })
      seqCounter := 0, lostCount := 3 } }

/-! ### WellFormed smoke: an ill-formed command for each check -/

theorem test_body_of_65_bytes_is_refused : (Instr.getInfo 0x00#8 (List.replicate 65 0x00#8)).wellFormed = false := by decide

theorem test_body_of_64_bytes_is_taken : (Instr.getInfo 0x00#8 (List.replicate 64 0x00#8)).wellFormed = true := by decide

theorem test_known_kind_is_no_unknown_kind : (Instr.unknownKind 0x02#8 0x00#8 []).wellFormed = false := by decide

theorem test_unknown_kind_with_long_body_is_refused :
    (Instr.unknownKind 0x05#8 0x00#8 (List.replicate 65 0x00#8)).wellFormed = false := by decide

theorem test_event_after_no_entry_is_refused :
    (Instr.scheduleEvaluation false [{ entry := 40, event := .tick }]).wellFormed = false := by decide

theorem test_schedule_request_inside_an_evaluation_is_refused :
    (Instr.scheduleEvaluation false [{ entry := 39, event := .request .schRead 0x00#8 [0x00#8] low }]).wellFormed = false := by
  decide

theorem test_event_with_long_body_is_refused :
    (Instr.scheduleEvaluation false
      [{ entry := 0, event := .cancelDecided 0x00#8 (List.replicate 65 0x00#8) false }]).wellFormed = false := by decide

/-! ### Figures and bytes of the spec -/

theorem test_line_check_of_R24 : lineCheck [0x41#8, 0x07#8, 0x02#8, 0x10#8, 0x80#8] = 0x8E#8 := by decide

theorem test_get_status_frame : linkFrame [0x02#8, 0x05#8] = [0xC3#8, 0x02#8, 0x02#8, 0x05#8, 0xF7#8] := by decide

theorem test_request_codes_decode : RequestKind.all.all (fun k => RequestKind.ofCode k.code == some k) = true := by decide

theorem test_no_row_has_bits : decodeTableWord 8 0x12 = none := rfl

theorem test_unread_sub_unit_and_phase_bytes_of_R183 :
    let d : EntryDef := { EntryDef.cleared with action := .transact toStation }
    txnSpecOf (toStation.bytesWith 0xFF#8) = some toStation ∧ entryDefOf (d.bytesWith 0x1F#8 0xFE#8) = some d := by decide

theorem test_report_code_3_is_no_report :
    after (.schWrite 0x01#8 [0x00#8, 0x01#8, 0x00#8, 0xFF#8, 0xFF#8, 0xFF#8, 0x00#8, 0x00#8, 0x00#8, 0x03#8, 0x00#8, 0x07#8])
      State.reset = answered 0x20#8 0x01#8 .badArg [] State.reset := by decide

theorem test_tickets_of_the_example_of_R3 :
    let busy : State := { State.reset with queue :=
      { urgent := [txn 65535 .host toGroup], normal := [txn 1 .host toStation], ticketCounter := 65534 } }
    let one := admission .host toStation busy
    busy.ticketToGive = 65534 ∧ one.queue.ticketCounter = 65535 ∧ one.ticketToGive = 2 ∧
      (admission .host toStation one).queue.ticketCounter = 3 := by decide

theorem test_cycle_list_of_the_example_of_R103 :
    let member := fun (pending : Bool) => { stn .present with servicePending := pending }
    let s := setStation 3 (member true) (setStation 7 (member false) (setStation 20 (member true)
      (setStation 28 (member false) { State.reset with poll := { PollUnit.initial with pointer := 7 } })))
    s.cycleList = [20, 3, 28, 7] := by decide

theorem test_day_pattern_of_R134 :
    dayAgrees (some { length := 7, phase := 3 }) 10 = true ∧ dayAgrees (some { length := 7, phase := 0 }) 65534 = true ∧
      dayAgrees (some { length := 7, phase := 0 }) 0 = true := by decide

theorem test_bytes_from_the_host_make_a_request :
    let bytes := [0xC3#8, 0x02#8, 0x02#8, 0x05#8, 0xF7#8]
    let s := bytes.foldl (fun t b => after (.hostByteReceived b low) t) State.reset
    s.link.replies.map (fun f => (f.kind, f.tag)) = [(0x82#8, 0x05#8)] ∧ s.link.framer = .hunt ∧
      s.link.replies = (after (.getStatus 0x05#8 []) State.reset).link.replies := by decide

theorem test_line_frame_of_section_11_5 :
    (LineFrame.build (.station 12) (some 3) 0x21#8 [0x05#8, 0x40#8]).bytes =
      [0x8C#8, 0x03#8, 0x21#8, 0x02#8, 0x05#8, 0x40#8, 0xB3#8] := by decide

theorem test_wrap_of_R119 :
    let t := after .tick { State.reset with cal := clock }
    t.cal = { clock with fraction := 0, second := 0, minute := 0, hour := 0, day := 0, divider := 0 } ∧
      t.boundaries = [{ day := 0, hour := 0, minute := 0, second := 0 }] ∧
      (t.notices.queue.map (fun n => n.body)).getLast? =
        some (.calEvent .wrap { day := 0, hour := 0, minute := 0, second := 0, fraction := 0 }) := by decide

/-- The check byte of a NORMAL reply, status 80h, no data, ends the attempt: the station is PRESENT with service pending, the
transaction is DONE, and the engine is IDLE. -/
theorem test_last_byte_of_a_reply :
    let s := setStation 1 (stn .unknown) (active (some { exchange .attempt .receive with replySoFar := [0x10#8, 0x80#8] }))
    let t := after (.replyByteReceived 0xCA#8 false) s
    t.engine.state = .idle ∧ t.stationAt 1 = { stn .present with lastStatus := some 0x80#8, servicePending := true } ∧
      t.notices.queue.map (fun n => n.body) = [.start .cold false false false, .stationState 1 .unknown .present,
        .txnDone { ticket := 5, origin := .host, outcome := .done, reply := some { cls := .normal, status := 0x80#8, data := [] },
                   attempts := 1, admitted := none }] := by decide

/-- An ARMED entry at second 0 that sends to a destination. -/
def sends (d : Destination) (r : Bool) : Entry :=
  { Entry.cleared 1 with
    state := .armed, defn := { EntryDef.cleared with repeats := r, action := .transact { toStation with dest := d } } }

/-- The second boundary of spec/08 section 8.11. -/
def boundary : SecondBoundary := { day := 88, hour := 6, minute := 30, second := 0 }

/-- The example of spec/08 section 8.11, cut to the claims of entries 11 and 14: PAUSED, 23 transactions queued. -/
def nearlyFull : State :=
  { setEntry 11 (sends (.station 12) true) (setEntry 14 (sends (.station 20) false) (inState .paused)) with
    boundaries := [boundary]
    queue := { urgent := [], normal := (List.range 23).map (fun i => txn (i + 1) .host { toGroup with dest := .all }),
               ticketCounter := 119 } }

/-- Entry 14 is dropped; with a BUS-CANCEL between the two claims, or a BUS-RESUME that lets the engine take the head, it is
admitted as ticket 120 (R135). It is SPENT in each (R138). -/
theorem test_events_between_two_claims :
    let run := fun (b : List Between) => after (.scheduleEvaluation false b) nearlyFull
    let dropped := run []
    let cancelled := run [{ entry := 11, event := .request .busCancel 0x01#8 [0x00#8, 0x07#8] low }]
    let resumed := run [{ entry := 11, event := .request .busResume 0x01#8 [] low }]
    (dropped.queue.count = 24 ∧ (dropped.entryAt 14).state = .spent ∧ (dropped.entryAt 14).missCount = 1) ∧
      (cancelled.queue.count = 24 ∧ (cancelled.entryAt 14).state = .spent ∧ (cancelled.entryAt 14).liveTicket = some 120) ∧
      (resumed.engine.ticket = some 1 ∧ resumed.queue.count = 24 ∧ (resumed.entryAt 14).liveTicket = some 120) := by decide +kernel

/-- A firing on an IDLE engine, cancelled before its take: where the grant was decided, the take finds the queue emptied and
the last grant is QUEUE (R9, R47); where it was not, no grant takes place. -/
theorem test_take_finds_queue_emptied :
    let s : State := { setEntry 11 (sends .all true) State.reset with boundaries := [boundary] }
    let run := fun (e : BetweenEvent) => after (.scheduleEvaluation false [{ entry := 11, event := e }]) s
    let decided := run (.cancelDecided 0x01#8 [0x00#8, 0x01#8] false)
    let undecided := run (.request .busCancel 0x01#8 [0x00#8, 0x01#8] low)
    (decided.queue.count = 0 ∧ decided.engine.state = .idle ∧ decided.engine.lastGrant = .queue) ∧
      (undecided.queue.count = 0 ∧ undecided.engine.state = .idle ∧ undecided.engine.lastGrant = .none) := by decide +kernel

/-- A tick between two firings of one evaluation shows in their snapshots (R140). -/
theorem test_tick_between_two_firings :
    let note : Entry := { Entry.cleared 1 with state := .armed }
    let s : State := { setEntry 0 note (setEntry 1 note State.reset) with cal := { clock with fraction := 7 }, boundaries := [boundary] }
    let t := after (.scheduleEvaluation false [{ entry := 0, event := .tick }]) s
    (t.entryAt 0).lastFired.map (fun x => x.fraction) = some 7 ∧ (t.entryAt 1).lastFired.map (fun x => x.fraction) = some 8 := by
  decide +kernel

/-- The transaction of entry 0 is taken and its LINE-CHECK cannot end in a line fault between the two claims: no completion report
reaches the table inside the evaluation, and entry 1 is notified ahead of any TXN-DONE (R135, R139). -/
theorem test_no_completion_report_inside_an_evaluation :
    let s : State := { setEntry 0 { sends .all true with defn := { (sends .all true).defn with report := .all } }
      (setEntry 1 { Entry.cleared 1 with state := .armed } State.reset) with boundaries := [boundary] }
    let t := after (.scheduleEvaluation true [{ entry := 0, event := .take true }, { entry := 0, event := .lineStuckExpiry }]) s
    t.engine.state = .active ∧ t.reports = [] ∧ (t.entryAt 0).liveTicket = some 1 ∧
      t.notices.queue.map (fun n => n.body) = [.start .cold false false false, .schFired 0 1 (.queued 1) boundary,
        .schFired 1 1 (.notified 0x00#8) boundary] ∧
      (after .lineStuckExpiry t).notices.queue.map (fun n => n.body.kindCode) = [0x60#8, 0x62#8, 0x62#8, 0x61#8, 0x67#8] := by
  decide +kernel

/-- A BUS-CANCEL that waits ahead of an SCH-READ is taken between two claims; an SCH-READ at the front is not (R135). -/
theorem test_waiting_cancel_is_taken_between_two_claims :
    let cancel : Frame := { kind := 0x39#8, tag := 0x01#8, body := [0x00#8, 0x07#8] }
    let read : Frame := { kind := 0x21#8, tag := 0x02#8, body := [0x00#8] }
    let full := fun (l : List Frame) => ({ nearlyFull with link := { nearlyFull.link with replies := List.replicate 4 read, intake := l } } : State)
    let run := fun (l : List Frame) => after (.scheduleEvaluation false [{ entry := 11, event := .hrdyAsserted low }]) (full l)
    ((run [cancel, read]).link.intake = [read] ∧ ((run [cancel, read]).entryAt 14).liveTicket = some 120) ∧
      ((run [read, cancel]).link.intake = [read, cancel] ∧ ((run [read, cancel]).entryAt 14).missCount = 1) := by decide +kernel

/-- A failed attempt quarantines the station whose poll is presented, and the withdrawal ends the third phantom cycle: its
ATTENTION-STUCK comes behind the TXN-DONE of the same end, for either origin (R53, R112). -/
theorem test_attention_stuck_behind_txn_done :
    let entry : Entry := { Entry.cleared 4 with state := .armed, liveTicket := some 5, defn := { EntryDef.cleared with report := .all } }
    let s := fun (o : Origin) =>
      let a := setEntry 2 entry (setStation 1 { stn .present with failures := 2 } (active none))
      { a with
        latnHeld := true
        engine := { a.engine with work := some (.transaction (txn 5 o toStation)) }
        poll := { (cycling [] (some 1) .presented false).poll with phantomCount := 2 } }
    let kinds := fun (o : Origin) =>
      (endWork .noReply (.failed .noReply) (s o)).notices.queue.map (fun n => n.body.kindCode)
    kinds .host = [0x60#8, 0x66#8, 0x61#8, 0x67#8] ∧ kinds (.schedule 2 4) = [0x60#8, 0x66#8, 0x61#8, 0x67#8] ∧
      (endWork .noReply (.failed .noReply) (s .host)).poll.state = .ignoring := by decide +kernel

/-- The first byte of the frame of spec/11 section 11.5, 8Ch, on the line: the start mark, then 0, 0, 1, 1, 0, 0, 0, 1 (R20). -/
theorem test_first_byte_on_the_line :
    let x := { exchange .attempt .send with frame := LineFrame.build (.station 12) (some 3) 0x21#8 [0x05#8, 0x40#8], bytesSent := 1 }
    x.sentSignals = [.startMark, .bit false, .bit false, .bit true, .bit true, .bit false, .bit false, .bit false, .bit true] ∧
      byteOfBits [false, false, true, true, false, false, false, true] = 0x8C#8 := by decide

/-- R186 with the decision first and a head that completes at its take: the poll is granted ahead of the next head. -/
theorem test_poll_granted_after_head_that_completes :
    let s : State := { station1 .unknown with
      latnHeld := true
      queue := { urgent := [txn 1 .host toGroup], normal := [txn 2 .host { toGroup with cls := .normal, dest := .all }],
                 ticketCounter := 3 } }
    let t := decideThenPresent s
    t.engine.work = some (.poll 1) ∧ t.engine.lastGrant = .poll ∧ t.queue.count = 1 := by decide +kernel

/-- An edge starts the monitor's timer of 4 ms, and a loss leaves none (R120, R128). -/
theorem test_monitor_timer :
    let t := after .oscillatorEdge State.reset
    t.cal.monitor = .starting ∧ t.cal.monitorTimer = some 4 ∧ (after .oscLoss t).cal.monitorTimer = none := by decide

/-- The completion of a SCHEDULE transaction whose end leads to PAUSED: TXN-DONE comes ahead of BUS-STATE (R95, log 20). -/
theorem test_schedule_done_ahead_of_paused :
    let entry : Entry := { Entry.cleared 4 with state := .armed, liveTicket := some 5, defn := { EntryDef.cleared with report := .all } }
    let s := setEntry 2 entry (withEngine (fun e => { e with
      state := .active, pausePending := true, attempts := 1, work := some (.transaction (txn 5 (.schedule 2 4) toGroup)) }))
    let t := endWork .done .sent s
    t.engine.state = .paused ∧ t.reports = [] ∧ (t.entryAt 2).liveTicket = none ∧
      (t.notices.queue.map (fun n => n.body)).getLast? = some (.busState .paused) ∧ t.notices.queue.length = 3 := by decide

/-! ### States and operands that meet the hypotheses of the obligations -/

/-- The premise that most statements about requests share. -/
theorem meets_LinkReady : LinkReady State.reset := ⟨by decide, by decide, by decide⟩

/-- The premise with a reply slot left at its last value, 3 of 4 replies queued. -/
theorem meets_LinkReady_last_slot :
    LinkReady { State.reset with link := { State.reset.link with
      replies := List.replicate 3 { kind := 0x81#8, tag := 0x00#8, body := [0x00#8] } } } := ⟨by decide, by decide, by decide⟩

theorem meets_StepRunsFrontCommand : State.reset.pending = [] := rfl

theorem meets_ResetIsColdStart :
    let s : State := { State.reset with vdd := false, backupKept := false }
    s.vdd = false ∧ s.backupKept = false ∧ s.rstnAsserted = false ∧ s.latnHeld = false ∧ s.hrdy = false ∧
      s.schedule.length = 40 ∧ s.stations.length = 30 ∧ s.choices = 0 ∧ s.pending = [] := by decide

/-- Every invariant's premise, with a step that changes the state. -/
theorem meets_invariants :
    let s : State := { State.reset with pending := [.busPause 0x01#8 []] }
    s.notices.ok = true ∧ s.ticketsOk = true ∧ s.linkOk = true ∧ s.cal.ok = true ∧ s.engine.ok = true ∧ s.lineOk = true ∧
      ∃ t, step s = .next t ∧ t.engine.state = .paused := by
  exact ⟨by decide, by decide, by decide, by decide, by decide, by decide, _, rfl, by decide⟩

theorem meets_EncodedRecordsDecode :
    toStation.ok = true ∧ toGroup.ok = true ∧ EntryDef.cleared.ok = true ∧ LineConfig.default.ok = true ∧
      ({ second := 59, minute := some 59, hour := some 23, day := some { length := 64, phase := 63 }, repeats := true,
         overlap := .queue, report := .all, action := .transact toGroup } : EntryDef).ok = true ∧
      ({ rate := .k250, readyTimeoutMs := 255, replyWindowMs := 255, lineStuckMs := 5000, busyBackoffMs := 2550,
         holdTimeoutS := 60, failureThreshold := 15, pollHoldoffMs := 2550, phantomLimit := 15 } : LineConfig).ok = true := by
  decide

theorem meets_GetStatsReplies_ResetPartStarts :
    (0 : Byte) = 0#8 ∧ (1 : Byte) = 1#8 ∧ 1 < (2#8 : Byte).toNat := by decide

theorem meets_StartLeavesInitialValues :
    State.reset.latnHeld = false ∧ ({ State.reset with latnHeld := true } : State).latnHeld = true := by decide

theorem meets_CalReadSetAnswers :
    23 < (24#8 : Byte).toNat ∧ 59 < (60#8 : Byte).toNat ∧ (23#8 : Byte).toNat ≤ 23 ∧ (59#8 : Byte).toNat ≤ 59 ∧
      ({ State.reset with cal := clock } : State).cal.running = true ∧ State.reset.cal.running = false := by decide

theorem meets_CalRunStopClearAnswers :
    ({ State.reset with cal := clock } : State).cal.running = true ∧
      (let s : State := { State.reset with cal := { clock with running := false } }
       s.cal.running = false ∧ s.cal.oscStable = true) ∧
      State.reset.cal.running = false ∧ State.reset.cal.oscStable = false := by decide

theorem meets_SchWriteAnswers_accepted :
    (39 < 40) ∧ (EntryState.armed = .armed ∨ EntryState.armed = .disabled) ∧
      ({ EntryDef.cleared with action := .transact toStation } : EntryDef).ok = true ∧
      (((station1 .unknown).stationAt 1).state ≠ .undefined ∧
        ((station1 .unknown).stationAt 1).fits toStation.subUnit = true) ∧
      (State.reset.stationAt 1).state = .undefined := by decide

theorem meets_SchWriteAnswers_refused :
    bodyFits .schWrite [40#8, 1#8, 0#8, 0#8, 0#8, 255#8, 0#8, 0#8, 0#8, 0#8, 0#8, 9#8] = true ∧ 39 < (40#8 : Byte).toNat ∧
      badEntryFields 60#8 0#8 0#8 255#8 0#8 0#8 0#8 0#8 = true ∧ badEntryFields 0#8 0#8 0#8 64#8 64#8 0#8 0#8 0#8 = true ∧
      bodyFits .schWrite [39#8, 2#8, 0#8, 0#8, 0#8, 255#8, 0#8, 0#8, 0#8, 0#8, 1#8, 0#8, 1#8, 0#8, 0xF0#8, 0#8, 0#8] = true ∧
      badTxnFields 0#8 1#8 0#8 0xF0#8 0#8 0#8 = true ∧
      (let s := setStation 1 { stn .unknown with subUnits := 1 } State.reset
       (s.stationAt 1).state ≠ .undefined ∧ (s.stationAt 1).fits none = false) := by decide

theorem meets_SchReadListReplies : (39#8 : Byte).toNat ≤ 39 ∧ 39 < (40#8 : Byte).toNat ∧ State.reset.schedule.length = 40 := by
  decide

/-- Both SCH-ENABLE with SCH-DISABLE, and SCH-DELETE: an index in range with an entry in each state, and one out of range. -/
theorem meets_SchEnableDisable_SchDelete :
    39 < (40#8 : Byte).toNat ∧ (39#8 : Byte).toNat ≤ 39 ∧
      (∀ st ∈ [EntryState.empty, .armed, .disabled, .spent],
        ((entry39 st).schedule.getD (39#8 : Byte).toNat (Entry.cleared 0)).state = st) := by decide

/-- STN-DEFINE, STN-READ, STN-RESTORE: numbers at the ends of the range, a station in each state they name. -/
theorem meets_StnDefine_StnReadRestore :
    (0#8 : Byte).toNat < 1 ∧ 30 < (31#8 : Byte).toNat ∧ 15 < (16#8 : Byte).toNat ∧ 1 < (2#8 : Byte).toNat ∧
      1 ≤ (30#8 : Byte).toNat ∧ (30#8 : Byte).toNat ≤ 30 ∧ (15#8 : Byte).toNat ≤ 15 ∧ (1#8 : Byte).toNat ≤ 1 ∧
      (State.reset.stationAt 30).state = .undefined ∧ ((station1 .unknown).stationAt 1).state ≠ .undefined ∧
      ((station1 .silent).stationAt 1).state ≠ .quarantined ∧ ((station1 .quarantined).stationAt 1).state = .quarantined := by
  decide

theorem meets_StnForgetAnswers :
    (State.reset.stationAt 1).state = .undefined ∧ (active none).engine.station = some 1 ∧
      (setStation 1 (stn .present) (active none)).stationAt 1 = stn .present ∧
      ((station1 .present).engine.station ≠ some 1 ∧ (station1 .present).poll.cycle = none) ∧
      (cycling [1] (some 2) .presented false).poll.cycle =
        some { remaining := [1], inFlight := some 2, request := .presented, serviceSeen := false } ∧
      (cycling [] (some 1) .presented false).poll.cycle =
        some { remaining := [], inFlight := some 1, request := .presented, serviceSeen := false } := by decide

theorem meets_TicketSkipsLive :
    State.reset.ticketsOk = true ∧ 65534 < 65535 ∧
      ({ State.reset with queue := { urgent := [txn 65535 .host toGroup], normal := [], ticketCounter := 65535 } } : State).ticketsOk
        = true := by decide

theorem meets_BusSendAdmits :
    LinkReady (station1 .unknown) ∧ toStation.ok = true ∧ toStation.cls = .normal ∧ toGroup.ok = true ∧ toGroup.cls = .urgent ∧
      (∀ n : Nat, toStation.dest = .station n →
        ((station1 .unknown).stationAt n).state ≠ .undefined ∧ ((station1 .unknown).stationAt n).fits toStation.subUnit = true) ∧
      (station1 .unknown).queue.count < 24 ∧ (station1 .unknown).queue.hostCount < 20 := by
  refine ⟨⟨by decide, by decide, by decide⟩, by decide, by decide, by decide, by decide, ?_, by decide, by decide⟩
  intro n h
  cases h
  decide

theorem meets_BusSendRefuses :
    bodyFits .busSend [2#8, 1#8, 0#8, 0#8, 0#8, 0#8] = true ∧ badTxnFields 2#8 1#8 0#8 0#8 0#8 0#8 = true ∧
      badTxnFields 0#8 31#8 0#8 0#8 0#8 0#8 = true ∧ badTxnFields 0#8 0x81#8 16#8 0#8 0#8 0#8 = true ∧
      badTxnFields 0#8 1#8 0#8 0xEF#8 3#8 8#8 = false ∧
      (State.reset.stationAt 1).state = .undefined ∧
      (let s := setStation 1 { stn .unknown with subUnits := 1 } State.reset
       (s.stationAt 1).state ≠ .undefined ∧ (s.stationAt 1).fits none = false) ∧
      (let q : DispatchQueue :=
         { urgent := List.replicate 4 (txn 1 (.schedule 0 0) toGroup), normal := List.replicate 20 (txn 1 .host toGroup),
           ticketCounter := 1 }
       24 ≤ q.count ∧ 20 ≤ q.hostCount) := by decide

theorem meets_BusCancelAnswers :
    256 * (0#8 : Byte).toNat + (0#8 : Byte).toNat = 0 ∧ 256 * (0#8 : Byte).toNat + (5#8 : Byte).toNat ≠ 0 ∧
      ({ State.reset with queue := { urgent := [], normal := [txn 5 .host toStation], ticketCounter := 6 } } : State).queue.find 5
        = some (txn 5 .host toStation) ∧
      (held.queue.find 5 = none ∧ held.engine.ticket = some 5 ∧ held.engine.referral = some referral) ∧
      ((active none).queue.find 5 = none ∧ (active none).engine.ticket = some 5 ∧ (active none).engine.referral = none) ∧
      ((active none).queue.find 6 = none ∧ (active none).engine.ticket ≠ some 6) := by decide

/-- BUS-PAUSE, BUS-RESUME and LINE-CONFIG: an engine in each state, a Poll Unit CYCLING and IDLE, LATN held and released. -/
theorem meets_BusPause_BusResume_LineConfig :
    (∀ e ∈ [EngineState.idle, .active, .held, .paused, .fault], (inState e).engine.state = e) ∧
      (cycling [] (some 1) .presented false).poll.state = .cycling ∧ (inState .paused).poll.state = .idle ∧
      (inState .paused).latnHeld = false ∧ ({ inState .fault with latnHeld := true } : State).latnHeld = true ∧
      (List.replicate 9 (0#8 : Byte)).length = 9 ∧ 3 < (4#8 : Byte).toNat ∧ (0#8 : Byte).toNat < 1 ∧ 50 < (51#8 : Byte).toNat ∧
      60 < (61#8 : Byte).toNat ∧ 15 < (16#8 : Byte).toNat ∧ LineConfig.default.ok = true := by decide

theorem meets_RefAnswerAnswers :
    (List.replicate 61 (0#8 : Byte)).length ≤ 61 ∧ 8 < (List.replicate 9 (0#8 : Byte)).length ∧ 1 < (2#8 : Byte).toNat ∧
      (1#8 : Byte).toNat ≤ 1 ∧ (255#8 : Byte) ≠ 0#8 ∧ held.engine.referral = some referral ∧
      referral.id = (255#8 : Byte).toNat ∧ referral.id ≠ (254#8 : Byte).toNat ∧ State.reset.engine.referral = none := by decide

theorem meets_RaisedNoticeAppends :
    State.reset.notices.queue.length < 16 ∧ 16 ≤ fullNotices.notices.queue.length ∧ fullNotices.notices.lostCount < 255 ∧
      ({ fullNotices.notices with lostCount := 255 } : NoticeUnit).lostCount = 255 := by decide

theorem meets_NoteAckAnswers :
    (∀ x ∈ State.reset.notices.queue, x.seq ≠ (1#8 : Byte).toNat) ∧
      (State.reset.notices.queue = [] ++ { seq := 0, timestamp := none, body := .start .cold false false false, transmitted := false } :: [] ∧ State.reset.notices.lostCount = 0) ∧
      (fullNotices.notices.queue.getLast?.map (fun x => x.seq) = some (255#8 : Byte).toNat ∧
        (∀ y ∈ fullNotices.notices.queue.dropLast, y.seq ≠ (255#8 : Byte).toNat) ∧
        fullNotices.notices.queue.length ≤ 16 ∧ 0 < fullNotices.notices.lostCount) := by decide

theorem meets_NoteFetch_NoteConfig :
    (0#8 : Byte).toNat < 1 ∧ 16 < (17#8 : Byte).toNat ∧ 1 ≤ (16#8 : Byte).toNat ∧ (16#8 : Byte).toNat ≤ 16 ∧
      State.reset.notices.mode = .push ∧ ({ State.reset.notices with mode := .pull } : NoticeUnit).mode = .pull ∧
      1 < (2#8 : Byte).toNat ∧ (1#8 : Byte) = DeliveryMode.pull.code ∧ (1#8 : Byte).toNat ≤ 1 ∧
      State.reset.attnAsserted = true := by decide

theorem meets_UnknownAndMisfitAnswers :
    (∀ k : RequestKind, k.code ≠ 0x05#8) ∧ bodyFits .getInfo [0x00#8] = false ∧ bodyFits .busSend [] = false ∧
      bodyFits .refAnswer [0x01#8, 0x00#8, 0x01#8] = false := by
  refine ⟨fun k => ?_, by decide, by decide, by decide⟩
  cases k <;> decide

theorem meets_RequestsWaitForSlot :
    let f : Frame := { kind := 0x81#8, tag := 0x00#8, body := [0x00#8] }
    let s (n : Nat) : State := { State.reset with link := { State.reset.link with
      replies := List.replicate 4 f, intake := List.replicate n f } }
    (s 3).linkOn = true ∧ (s 3).link.replies.length = 4 ∧ (s 3).transmitterHeld = true ∧ (s 3).link.intake.length < 4 ∧
      4 ≤ (s 4).link.intake.length ∧ ({ State.reset with rstnAsserted := true } : State).linkOn = false := by decide

theorem meets_TransmitterDecides_LinkPinEvents :
    let f : Frame := { kind := 0x81#8, tag := 0x00#8, body := [0x00#8] }
    let s : State := { State.reset with hrdy := true }
    State.reset.hrdy = false ∧ ({ s.link with replies := [f] } : HostLink).replies = f :: [] ∧ s.link.sending = none ∧
      s.link.replies = [] ∧ s.notices.queue = [] ++ { seq := 0, timestamp := none, body := .start .cold false false false, transmitted := false } :: [] ∧ s.notices.mode = .push ∧ s.linkOn = true ∧ s.link.intake = [] := by decide

/-- A RESET-PART that waits behind a full reply queue, with a frame on HTXD and without one. -/
theorem meets_LinkPinEvents_waiting :
    let f : Frame := { kind := 0x81#8, tag := 0x00#8, body := [0x00#8] }
    let reset : Frame := { kind := 0x04#8, tag := 0x00#8, body := [0x00#8] }
    let s : State := { State.reset with link := { State.reset.link with replies := List.replicate 4 f, intake := [reset] } }
    let u : State := { s with hrdy := true, link := { s.link with sending := some { frame := f, rate := .b9600 } } }
    s.linkOn = true ∧ s.hrdy = false ∧ s.link.sending = none ∧ s.link.replies = f :: List.replicate 3 f ∧
      s.link.replies.length = 4 ∧ s.link.intake = reset :: [] ∧ u.linkOn = true ∧ u.hrdy = true ∧ u.link.sending ≠ none := by decide

/-- Notices of each kind, with and without what is optional in them. -/
theorem meets_TransmitterDecides_notices :
    let c : Completion := { ticket := 1, origin := .host, outcome := .noStation, reply := none, attempts := 0, admitted := none }
    let n := fun (b : NoticeBody) => ({ seq := 255, timestamp := none, body := b, transmitted := false } : Notice)
    (n (.txnDone c)).body = .txnDone c ∧ c.origin = .host ∧ ({ c with origin := .schedule 39 255 } : Completion).origin = .schedule 39 255 ∧
      (n (.txnDone c)).frame.body.length = 7 + 5 ∧ (n (.busState .paused)).frame.kind = 0x67#8 := by decide

theorem meets_HostBytesFramed :
    State.reset.linkOn = true ∧ ({ State.reset with rstnAsserted := true } : State).linkOn = false ∧
      State.reset.link.framer = .hunt ∧ (0xC3#8 : Byte) = 0xC3#8 ∧ (0x00#8 : Byte) ≠ 0xC3#8 ∧ 2 ≤ (2#8 : Byte).toNat ∧
      (66#8 : Byte).toNat ≤ 66 ∧ (1#8 : Byte).toNat < 2 ∧ 66 < (67#8 : Byte).toNat ∧
      byte 2 + [0x02#8, 0x05#8].sum + 0xF7#8 = (0#8 : Byte) ∧ byte 2 + [0x02#8, 0x05#8].sum + 0xF6#8 ≠ (0#8 : Byte) ∧
      (after (.hostByteReceived 0xC3#8 low) State.reset).link.gapTimer ≠ none := by decide

theorem meets_Supply_Oscillator_Tick :
    ({ State.reset with vdd := false } : State).backupKept = true ∧ State.reset.vdd = true ∧ State.reset.cal.monitor = .lost ∧
      ({ Calendar.cold with monitor := .starting, settleTimer := some 2000, monitorTimer := some 4 } : Calendar).ok = true ∧
      clock.monitor = .stable ∧ clock.running = true ∧ clock.divider = 127 ∧ ({ clock with divider := 126 } : Calendar).divider < 127 ∧
      clock.ok = true ∧ State.reset.cal.running = false ∧ ({ clock with running := false } : Calendar).monitor = .stable ∧
      (let s : State := { State.reset with vdd := false, cal := clock }
       s.vdd = false ∧ s.backupKept = true ∧ s.cal.running = true ∧ s.cal.monitor ≠ .lost) ∧
      ({ State.reset with vdd := false, backupKept := false } : State).backupKept = false := by decide

theorem meets_EvaluationScansInOrder :
    let s : State := { inState .paused with boundaries := [boundary] }
    s.vdd = true ∧ s.boundaries = boundary :: [] ∧ State.reset.boundaries = [] ∧
      EntryDef.cleared.isMatch boundary = true ∧ ((entry39 .armed).entryAt 39).state = .armed ∧
      ((entry39 .disabled).entryAt 39).state ≠ .armed ∧ betweenCommand .tick = some .tick ∧
      leavesEvaluationWhole s (after .tick s) = true ∧ leavesEvaluationWhole s (serveLink (decideGrant (withLrdy false s))) = true ∧
      (BetweenEvent.request .schWrite 0x00#8 [] low).besideEvaluation = false ∧
      leavesEvaluationWhole { s with link := { s.link with intake := [{ kind := 0x20#8, tag := 0x00#8, body := [] }] } } s = false := by
  decide

/-- A BUS-CANCEL ahead of a take: of the one transaction that waits, of another, and with nothing decided. -/
theorem meets_EvaluationScansInOrder_cancelDecided :
    let queued := fun (l : List Transaction) => ({ State.reset with queue := { urgent := [], normal := l, ticketCounter := 9 } } : State)
    let one := queued [txn 5 .host toStation]
    let two := queued [txn 5 .host toStation, txn 6 .host toStation]
    (one.engine.state = .idle ∧ one.poll.presented = none ∧ one.queue.normal ≠ []) ∧
      (∃ t, exec (.busCancel 0x00#8 [0x00#8, 0x05#8] false) one = .next t ∧ t.vdd = true ∧ t.engine.state = .idle ∧
        t.queue.urgent = [] ∧ t.queue.normal = []) ∧
      (∃ t, exec (.busCancel 0x00#8 [0x00#8, 0x05#8] false) two = .next t ∧ t.vdd = true ∧ t.engine.state = .idle ∧
        t.queue.normal ≠ [] ∧ t.poll.presented = none) ∧
      (inState .paused).engine.state ≠ .idle ∧ State.reset.queue.urgent = [] ∧ State.reset.queue.normal = [] ∧
      ((cycling [] (some 1) .presented false).poll.presented = some 1 ∧
        (cycling [] (some 1) .presented false).engine.lastGrant ≠ .poll) :=
  ⟨by decide, ⟨_, rfl, by decide, by decide, by decide, by decide⟩, ⟨_, rfl, by decide, by decide, by decide, by decide⟩,
    by decide, by decide, by decide, by decide⟩

theorem meets_FiringByAction :
    let e : Entry := { Entry.cleared 0 with fireCount := 65535, missCount := 255, liveTicket := some 1 }
    e.fireCount ≤ 65535 ∧ e.missCount ≤ 255 ∧ e.defn.action = .notify 0x00#8 ∧
      (e.defn.overlap = .skip ∧ e.liveTicket ≠ none) ∧ (Entry.cleared 0).liveTicket = none ∧
      ({ EntryDef.cleared with action := .transact toGroup } : EntryDef).action = .transact toGroup ∧
      24 ≤ ({ urgent := List.replicate 24 (txn 1 .host toGroup), normal := [], ticketCounter := 2 } : DispatchQueue).count ∧
      State.reset.queue.count < 24 := by decide

theorem meets_CompletionReportsTaken :
    let c : Completion := { ticket := 1, origin := .schedule 39 255, outcome := .done, reply := none, attempts := 1, admitted := none }
    let s : State := { entry39 .spent with reports := [c] }
    s.vdd = true ∧ s.reports = c :: [] ∧ c.origin = .schedule 39 255 ∧ (s.entryAt 39).generation = 255 ∧
      (s.entryAt 39).defn.report = .none ∧ (State.reset.entryAt 39).generation ≠ 255 ∧ c.outcome = .done := by decide

theorem meets_StationReportsTaken :
    let r := { stn .present with failures := 2 }
    2 + 1 = 3 ∧ 1 + 1 < 3 ∧ 3 ≤ ({ r with failures := 3 } : Station).failures ∧
      (r.reported none true 3 none).state = .quarantined ∧ ((stn .unknown).reported none true 3 none).state = .unknown ∧
      ({ r with policy := .staySilent }.reported none true 3 none).state = .silent := by decide

/-- The events of an exchange: the engine ACTIVE with an exchange in each phase, its timers running and not. -/
theorem meets_line_events :
    (∀ p ∈ [Phase.lineCheck, .send, .turn, .receive],
      (active (some (exchange .attempt p))).engine.exchange = some (exchange .attempt p) ∧ (exchange .attempt p).phase = p) ∧
      (active none).engine.exchange = none ∧ (active none).vdd = true ∧
      (exchange .attempt .send).ready = none ∧ ({ exchange .attempt .send with ready := some 10 } : Exchange).ready ≠ none ∧
      (exchange .attempt .turn).turnHold = none ∧ ({ exchange .attempt .turn with turnHold := some 80 } : Exchange).turnHold ≠ none ∧
      0 + 1 < (exchange .attempt .send).frame.bytes.length ∧
      ({ exchange .attempt .send with bytesSent := 4 } : Exchange).bytesSent + 1 = (exchange .attempt .send).frame.bytes.length ∧
      (exchange .attempt .send).replyExpected = true := by decide

theorem meets_ReplyBytesReceived :
    (exchange .attempt .receive).phase = .receive ∧ (exchange .attempt .receive).ready = none ∧
      (exchange .attempt .receive).replySoFar = [] ∧ (0x00#8 : Byte).toNat / 16 < 1 ∧ 4 < (0x50#8 : Byte).toNat / 16 ∧
      8 < (0x19#8 : Byte).toNat % 16 ∧ 1 ≤ (0x18#8 : Byte).toNat / 16 ∧ (0x48#8 : Byte).toNat / 16 ≤ 4 ∧
      (0x48#8 : Byte).toNat % 16 ≤ 8 ∧ ([] : List Byte).length < (0x10#8 : Byte).toNat % 16 + 1 ∧
      ReplyClass.normal.code.toNat = (0x10#8 : Byte).toNat / 16 ∧
      [0x10#8, 0x00#8].foldl (· ^^^ ·) (0x5A#8 : Byte) = 0x4A#8 := by decide

/-- Attempts, waits and ends: the engine ACTIVE on a transaction with retries left and none left, a wait of each kind. -/
theorem meets_attempts_and_ends :
    (exchange .attempt .send).kind = .attempt ∧ (active none).engine.work = some (.transaction (txn 5 .host toStation)) ∧
      (active none).engine.attempts ≤ toStation.retryLimit ∧ ¬ 4 ≤ toStation.retryLimit ∧ 1 ≤ (active none).engine.attempts ∧
      (active none).vdd = true ∧ ({ (active none).engine with wait := some (.lineRest 1) } : LineEngine).wait = some (.lineRest 1) ∧
      ({ (active none).engine with wait := some (.busyBackoff 50) } : LineEngine).wait = some (.busyBackoff 50) ∧
      (active none).engine.pausePending = false ∧ AttemptResult.sent ≠ .lineFault ∧
      (exchange .attempt .send).frame.bytes[4]? = some 0x48#8 ∧
      ({ exchange .attempt .turn with bytesSent := 5 } : Exchange).bytesSent = (exchange .attempt .turn).frame.bytes.length := by decide

theorem meets_ReferralOpensAndCloses :
    (active none).engine.station = some 1 ∧
      (∃ t, (active none).engine.work = some (.transaction t) ∧ ReferralOrigin.ticket 5 = .ticket t.ticket) ∧
      held.vdd = true ∧ held.engine.referral = some referral ∧ Closure.answeredAccept = .answeredAccept ∧
      (Closure.timeout = .answeredReject ∨ Closure.timeout = .cancelled ∨ Closure.timeout = .timeout) :=
  ⟨by decide, ⟨_, rfl, rfl⟩, by decide, by decide, rfl, by decide⟩

theorem meets_GrantAlternates :
    (inState .paused).engine.state ≠ .idle ∧
      (let s := cycling [] (some 1) .presented false
       s.engine.state = .idle ∧ s.poll.presented = some 1 ∧ s.engine.lastGrant ≠ .poll ∧
         s.poll.cycle = some { remaining := [], inFlight := some 1, request := .presented, serviceSeen := false }) ∧
      (State.reset.poll.presented = none ∧ State.reset.queue.urgent = [] ∧ State.reset.queue.normal = []) ∧
      (let s := after .latnHeld (station1 .unknown)
       s.vdd = true ∧ s.poll.due = true ∧ s.engine.state = .idle ∧ s.engine.lastGrant ≠ .poll ∧
         s.poll.cycle = some { remaining := [], inFlight := some 1, request := .presented, serviceSeen := false }) ∧
      State.reset.poll.due = false := by decide

/-- A head of each class, and each row of Table 1-4: to a station UNDEFINED, misfit, QUARANTINED and in service, to a group
with and without a member. -/
theorem meets_GrantAlternates_head :
    let q : DispatchQueue := { urgent := [], normal := [], ticketCounter := 2 }
    ({ urgent := [txn 1 .host toGroup], normal := [], ticketCounter := 2 } = { q with urgent := txn 1 .host toGroup :: q.urgent }) ∧
      ({ urgent := [], normal := [txn 1 .host toStation], ticketCounter := 2 } = { q with normal := txn 1 .host toStation :: q.normal }) ∧
      State.reset.engine.pausePending = false ∧
      (State.reset.stationAt 1).state = .undefined ∧
      (let r := (setStation 1 { stn .unknown with subUnits := 1 } State.reset).stationAt 1
       r.state ≠ .undefined ∧ r.fits toStation.subUnit = false) ∧
      (((station1 .quarantined).stationAt 1).state = .quarantined ∧ ((station1 .quarantined).stationAt 1).fits toStation.subUnit = true) ∧
      (((station1 .silent).stationAt 1).state ≠ .undefined ∧ ((station1 .silent).stationAt 1).state ≠ .quarantined ∧
        ((station1 .silent).stationAt 1).fits toStation.subUnit = true) ∧
      (∀ r ∈ State.reset.stations, r.groups.getLsbD 7 = false) ∧
      ({ stn .unknown with groups := 0x80#8 } : Station).groups.getLsbD 7 = true := by decide

theorem meets_PollUnitEvents_CycleTurns :
    State.reset.vdd = true ∧ State.reset.poll.state = .idle ∧ State.reset.engine.state ≠ .paused ∧
      State.reset.engine.state ≠ .fault ∧ State.reset.poll.pointer ≤ 30 ∧
      (∀ p ∈ [PollerState.idle, .holdoff, .cycling, .ignoring], ({ State.reset.poll with state := p } : PollUnit).state = p) ∧
      (cycling [1, 2] none .none false).latnHeld = true ∧ (cycling [1, 2] none .none false).poll.state = .cycling ∧
      2 < LineConfig.default.phantomLimit ∧ LineConfig.default.phantomLimit ≤ 3 ∧ (0x80#8 : Byte).msb = true ∧
      (0x7F#8 : Byte).msb = false := by decide

theorem meets_PollAndVerdictResults :
    (exchange .poll .send).kind = .poll ∧ (exchange .confirm .send).kind = .confirm ∧ (exchange .deny .send).kind = .deny ∧
      (let e := (closeReferral referral .cancelled [] held).engine
       e.closing.map (fun c => c.closure) = some .cancelled ∧ e.exchange.map (fun x => x.kind) = some .deny ∧ e.state = .active) ∧
      (let e := (closeReferral referral .answeredAccept [0x01#8] held).engine
       e.closing.map (fun c => c.closure) = some .answeredAccept ∧ e.exchange.map (fun x => x.kind) = some .confirm) := by decide

end Sys2Proof.Tests.Slice0
end

section
/-! SUPPORT. Transactions and the Dispatch Queue: the ticket an admission gives, the transaction that a BUS-SEND body spells,
and what BUS-SEND and BUS-CANCEL answer. -/

namespace Sys2Proof.Machine

/-! ### The ticket counter (R3) -/

/-- Steps of the ticket counter from a value in range run round the 65535 tickets. -/
theorem nextTicket_iterate (t j : Nat) (lo : 1 ≤ t) (hi : t ≤ 65535) :
    nextTicket^[j] t = (t - 1 + j) % 65535 + 1 := by
  induction j with
  | zero => simp only [Function.iterate_zero, id_eq]; omega
  | succ j ih =>
    rw [Function.iterate_succ_apply', ih]
    unfold nextTicket
    split <;> omega

/-- No ticket comes twice within 65535 steps of the counter. -/
theorem nextTicket_iterate_injOn (t n : Nat) (lo : 1 ≤ t) (hi : t ≤ 65535) (small : n ≤ 65535) :
    Set.InjOn (fun j => nextTicket^[j] t) (Finset.range n) := by
  intro i hi' j hj' same
  simp only [Finset.coe_range, Set.mem_Iio] at hi' hj'
  simp only [nextTicket_iterate t _ lo hi] at same
  omega

/-- The search stops after some steps, each past a live ticket; it stops on a live ticket only where its fuel ends. -/
theorem freeTicket_eq_iterate (live : List Nat) (fuel t : Nat) :
    ∃ k ≤ fuel, freeTicket live fuel t = nextTicket^[k] t ∧ (∀ j < k, nextTicket^[j] t ∈ live) ∧
      (nextTicket^[k] t ∈ live → k = fuel) := by
  induction fuel generalizing t with
  | zero => exact ⟨0, le_rfl, rfl, by simp, fun _ => rfl⟩
  | succ fuel ih =>
    unfold freeTicket
    by_cases taken : t ∈ live
    · obtain ⟨k, bound, value, passed, stop⟩ := ih (nextTicket t)
      refine ⟨k + 1, by omega, by rw [if_pos taken, value, Function.iterate_succ_apply], ?_, ?_⟩
      · rintro (_ | j) less
        · exact taken
        · exact passed j (by omega)
      · exact fun again => by rw [stop again]
    · exact ⟨0, by omega, by rw [if_neg taken]; rfl, by simp, fun again => absurd again taken⟩

/-- With one step for every live ticket, the search ends on a ticket that is not live: the values it passed and the value it
ends on are more than the live tickets. -/
theorem freeTicket_notMem (live : List Nat) (t : Nat) (lo : 1 ≤ t) (hi : t ≤ 65535) (few : live.length < 65535) :
    freeTicket live live.length t ∉ live := by
  obtain ⟨k, -, value, passed, stop⟩ := freeTicket_eq_iterate live live.length t
  rw [value]
  intro again
  obtain rfl := stop again
  have allLive : ∀ j ∈ Finset.range (live.length + 1), nextTicket^[j] t ∈ live.toFinset := by
    intro j less
    rw [List.mem_toFinset]
    obtain before | rfl := Nat.lt_succ_iff_lt_or_eq.mp (Finset.mem_range.mp less)
    · exact passed j before
    · exact again
  have pigeons := Finset.card_le_card_of_injOn _ allLive (nextTicket_iterate_injOn t _ lo hi (by omega))
  rw [Finset.card_range] at pigeons
  have holes := List.toFinset_card_le live
  omega

/-- The live tickets are those of the queued transactions and at most one in the Line Engine (R2). -/
theorem liveTickets_length_le (s : State) : s.liveTickets.length ≤ s.queue.count + 1 := by
  unfold State.liveTickets DispatchQueue.order DispatchQueue.count
  cases s.engine.ticket <;> simp only [List.length_append, List.length_map, Option.toList, List.length_cons, List.length_nil] <;>
    omega

/-- What the ticket invariant says of the queue's count and of the counter (R3, R5). -/
theorem ticketsOk_bounds (s : State) (ok : s.ticketsOk = true) :
    s.queue.count ≤ 24 ∧ 1 ≤ s.queue.ticketCounter ∧ s.queue.ticketCounter ≤ 65535 := by
  simp only [State.ticketsOk, Bool.and_eq_true, decide_eq_true_eq] at ok
  obtain ⟨⟨⟨⟨⟨⟨count, -⟩, -⟩, -⟩, counter⟩, -⟩, -⟩ := ok
  exact ⟨count, counter⟩

/-- The ticket to give: the counter's value stepped past live tickets to one that is not live (R3). -/
theorem ticketToGive_free (s : State) (ok : s.ticketsOk = true) :
    s.ticketToGive ∉ s.liveTickets ∧ 1 ≤ s.ticketToGive ∧ s.ticketToGive ≤ 65535 ∧
    ∃ k ≤ 25, s.ticketToGive = nextTicket^[k] s.queue.ticketCounter ∧
      ∀ j < k, nextTicket^[j] s.queue.ticketCounter ∈ s.liveTickets := by
  obtain ⟨count, lo, hi⟩ := ticketsOk_bounds s ok
  have few := liveTickets_length_le s
  obtain ⟨k, bound, value, passed, -⟩ := freeTicket_eq_iterate s.liveTickets s.liveTickets.length s.queue.ticketCounter
  have position := nextTicket_iterate s.queue.ticketCounter k lo hi
  unfold State.ticketToGive
  exact ⟨freeTicket_notMem _ _ lo hi (by omega), by omega, by omega, k, by omega, value, passed⟩

/-! ### Admission (R3, R7, R8) -/

@[simp] theorem admission_ticketCounter (o : Origin) (t : TxnSpec) (s : State) :
    (admission o t s).queue.ticketCounter = nextTicket s.ticketToGive := rfl

/-- A record placed in the queue stands in its order. -/
theorem mem_order_place (t : Transaction) (q : DispatchQueue) : t ∈ (q.place t).order := by
  unfold DispatchQueue.place DispatchQueue.order
  cases t.spec.cls <;> simp

/-- The record an admission builds is queued. -/
theorem newTransaction_mem_admission (o : Origin) (t : TxnSpec) (s : State) :
    s.newTransaction o t ∈ (admission o t s).queue.order := mem_order_place _ s.queue

/-! ### The Poll Unit and a start leave the queue alone -/

@[simp] theorem pollCompleteEnd_queue (seen : Bool) (s : State) : (pollCompleteEnd seen s).queue = s.queue := by
  unfold pollCompleteEnd
  dsimp only
  repeat' split
  all_goals rfl

@[simp] theorem pollTurn_queue (s : State) : (pollTurn s).queue = s.queue := by
  unfold pollTurn
  split
  · rfl
  · split
    · split
      · rfl
      · exact pollCompleteEnd_queue _ s
    · rfl

@[simp] theorem pollTest_queue (s : State) : (pollTest s).queue = s.queue := by
  unfold pollTest
  split
  · exact pollTurn_queue (pollBuild s)
  · rfl

/-- A start leaves the Dispatch Queue empty with the counter at 1 (R3, R18). -/
@[simp] theorem start_queue (k : StartKind) (s : State) : (start k s).queue = DispatchQueue.initial := by
  unfold start
  rw [pollTest_queue]
  rfl

/-- Settles O26: the search passes only live tickets, and there are too few of them to fill its steps. -/
theorem ticketSkipsLive : Obligations.TicketSkipsLive := by
  refine ⟨ticketToGive_free, ?admitted, ?started, fun t less => if_pos less, rfl⟩
  case admitted =>
    intro s o t
    exact ⟨admission_ticketCounter o t s, s.newTransaction o t, newTransaction_mem_admission o t s, rfl, rfl, rfl⟩
  case started =>
    intro k s
    rw [start_queue]
    rfl

/-! ### The fields of a BUS-SEND body (R6, Table 11-2) -/

/-- The class codes are 0 and 1. -/
theorem txnClassOfCode_le {b : Byte} {c : TxnClass} (h : TxnClass.ofCode b = some c) : b.toNat ≤ 1 := by
  unfold TxnClass.ofCode at h
  split at h
  · rename_i zero; simp [zero]
  · split at h
    · rename_i one; simp [one]
    · cases h

/-- A class is read back from its code. -/
@[simp] theorem txnClassOfCode_code (c : TxnClass) : TxnClass.ofCode c.code = some c := by cases c <;> rfl

/-- A number read in a range is the byte's value and lies in the range. -/
theorem inRange_eq_some_iff {lo hi n : Nat} {b : Byte} : inRange lo hi b = some n ↔ b.toNat = n ∧ lo ≤ n ∧ n ≤ hi := by
  unfold inRange
  split <;> simp only [Option.some.injEq, reduceCtorEq, false_iff] <;> omega

/-- A number below 256 is its byte's value. -/
theorem byte_toNat {n : Nat} (h : n < 256) : (byte n).toNat = n := by
  rw [BitVec.toNat_ofNat]
  exact Nat.mod_eq_of_lt h

/-- The two fields and bit 7 of a destination byte, read from its value. -/
theorem toNat_destination_fields (b : Byte) :
    (b &&& 0x1F#8).toNat = b.toNat % 32 ∧ (b >>> 5).toNat = b.toNat / 32 ∧ b.msb = decide (128 ≤ b.toNat) := by
  refine ⟨?_, ?_, BitVec.msb_eq_decide b⟩
  · rw [BitVec.toNat_and]
    exact Nat.and_two_pow_sub_one_eq_mod b.toNat 5
  · rw [BitVec.toNat_ushiftRight, Nat.shiftRight_eq_div_pow]

/-- What a destination byte spells: bit 7 the presence of a sub-unit, then kind and number in the range of the kind. -/
theorem destinationOfByte_cases {b : Byte} {d : Destination} {given : Bool} (h : destinationOfByte b = some (d, given)) :
    given = decide (128 ≤ b.toNat) ∧
    ((d = .station (b.toNat % 32) ∧ b.toNat / 32 % 4 = 0 ∧ 1 ≤ b.toNat % 32 ∧ b.toNat % 32 ≤ 30) ∨
     (d = .group (b.toNat % 32) ∧ b.toNat / 32 % 4 = 1 ∧ b.toNat % 32 ≤ 7) ∨
     (d = .all ∧ b.toNat / 32 % 4 = 2 ∧ b.toNat % 32 = 0)) := by
  obtain ⟨number, kind, bit⟩ := toNat_destination_fields b
  unfold destinationOfByte at h
  simp only [number, kind, bit, Option.map_eq_some_iff, Prod.mk.injEq] at h
  obtain ⟨e, spelled, rfl, rfl⟩ := h
  refine ⟨rfl, ?_⟩
  split at spelled
  · rename_i station
    obtain ⟨⟨lo, hi⟩, ⟨⟩⟩ := Option.ite_none_right_eq_some.mp spelled
    exact .inl ⟨rfl, station, lo, hi⟩
  · rename_i group
    obtain ⟨hi, ⟨⟩⟩ := Option.ite_none_right_eq_some.mp spelled
    exact .inr (.inl ⟨rfl, group, hi⟩)
  · rename_i all
    obtain ⟨zero, ⟨⟩⟩ := Option.ite_none_right_eq_some.mp spelled
    exact .inr (.inr ⟨rfl, all, zero⟩)
  · cases spelled

/-- A station's destination byte, with and without a sub-unit, is read back. -/
theorem destinationOfByte_station : ∀ n ≤ 30, 1 ≤ n → ∀ given : Bool,
    destinationOfByte ((if given = true then 0x80#8 else 0x00#8) ||| byte n) = some (.station n, given) := by decide

/-- A group's destination byte is read back, whatever its bit 7. -/
theorem destinationOfByte_group : ∀ n ≤ 7, ∀ given : Bool,
    destinationOfByte ((if given = true then 0x80#8 else 0x00#8) ||| (0x20#8 ||| byte n)) = some (.group n, given) := by decide

/-- The destination byte of ALL is read back, whatever its bit 7. -/
theorem destinationOfByte_all : ∀ given : Bool,
    destinationOfByte ((if given = true then 0x80#8 else 0x00#8) ||| 0x40#8) = some (.all, given) := by decide

/-- The ranges of a transaction's fields, one by one. -/
theorem TxnSpec.ok_iff (t : TxnSpec) : t.ok = true ↔
    ((∀ n, t.dest = .station n → 1 ≤ n ∧ n ≤ 30) ∧ (∀ g, t.dest = .group g → g ≤ 7)) ∧
    (∀ u, t.subUnit = some u → u ≤ 15 ∧ t.dest.replies = true) ∧
    t.command.toNat < 0xF0 ∧ t.args.length ≤ 8 ∧ t.retryLimit ≤ 3 := by
  obtain ⟨cls, dest, sub, command, args, retry⟩ := t
  unfold TxnSpec.ok
  cases dest <;> cases sub <;> simp [and_assoc]

/-- A destination in range is read back from its byte, with the presence of a sub-unit. -/
theorem destinationOfByte_destinationByte (t : TxnSpec) (ok : t.ok = true) :
    destinationOfByte (destinationByte t.dest t.subUnit) = some (t.dest, t.subUnit.isSome) := by
  obtain ⟨⟨station, group⟩, -⟩ := t.ok_iff.mp ok
  cases dst : t.dest with
  | station n =>
    obtain ⟨lo, hi⟩ := station n dst
    exact destinationOfByte_station n hi lo _
  | group g => exact destinationOfByte_group g (group g dst) _
  | all => exact destinationOfByte_all _

/-- A body spells a transaction exactly when each byte, read alone, gives the field. -/
theorem txnSpecOf_eq_some_iff {cls dest sub command retry count : Byte} {args : List Byte} {t : TxnSpec} :
    txnSpecOf (cls :: dest :: sub :: command :: retry :: count :: args) = some t ↔
      ∃ given, TxnClass.ofCode cls = some t.cls ∧ destinationOfByte dest = some (t.dest, given) ∧
        inRange 0 3 retry = some t.retryLimit ∧ subUnitOf t.dest given sub = some t.subUnit ∧
        command.toNat < 0xF0 ∧ count.toNat ≤ 8 ∧ command = t.command ∧ args = t.args := by
  obtain ⟨c, d, u, m, a, r⟩ := t
  simp only [txnSpecOf]
  constructor
  · intro h
    split at h
    · rename_i hc hd hr
      split at h
      · rename_i hu
        obtain ⟨⟨hm, hn⟩, same⟩ := Option.ite_none_right_eq_some.mp h
        cases same
        exact ⟨_, hc, hd, hr, hu, hm, hn, rfl, rfl⟩
      · cases h
    · cases h
  · rintro ⟨given, hc, hd, hr, hu, hm, hn, rfl, rfl⟩
    simp only [hc, hd, hr, hu, hm, hn, and_self, if_true]

/-- A sub-unit that is given and read belongs to a station and is at most 15. -/
theorem subUnitOf_given {d : Destination} {b : Byte} {u : Option Nat} (h : subUnitOf d true b = some u) :
    d.replies = true ∧ b.toNat ≤ 15 ∧ u = some b.toNat := by
  unfold subUnitOf at h
  rw [if_pos rfl] at h
  cases d with
  | station n =>
    obtain ⟨v, read, rfl⟩ := Option.map_eq_some_iff.mp h
    obtain ⟨rfl, -, hi⟩ := inRange_eq_some_iff.mp read
    exact ⟨rfl, hi, rfl⟩
  | group n => cases h
  | all => cases h

/-- Fields that Table 1-3 refuses in its steps 1 to 3 spell no transaction: each field of a spelled one is in range. -/
theorem txnSpecOf_eq_none_of_badTxnFields {cls dest sub command retry count : Byte} (args : List Byte)
    (bad : badTxnFields cls dest sub command retry count = true) :
    txnSpecOf (cls :: dest :: sub :: command :: retry :: count :: args) = none := by
  rw [Option.eq_none_iff_forall_ne_some]
  intro t spelled
  obtain ⟨given, hc, hd, hr, hu, hm, hn, -, -⟩ := txnSpecOf_eq_some_iff.mp spelled
  have cls1 := txnClassOfCode_le hc
  obtain ⟨retryIs, -, retry3⟩ := inRange_eq_some_iff.mp hr
  obtain ⟨rfl, kinds⟩ := destinationOfByte_cases hd
  have subFits : dest.toNat < 128 ∨ (t.dest.replies = true ∧ sub.toNat ≤ 15) := by
    refine (lt_or_ge dest.toNat 128).imp_right fun bit => ?_
    rw [decide_eq_true bit] at hu
    obtain ⟨replies, hi, -⟩ := subUnitOf_given hu
    exact ⟨replies, hi⟩
  unfold badTxnFields at bad
  simp only [Bool.or_eq_true, Bool.and_eq_true, decide_eq_true_eq, beq_iff_eq, bne_iff_ne] at bad
  obtain ⟨dst, kind, lo, hi⟩ | ⟨dst, kind, hi⟩ | ⟨dst, kind, zero⟩ := kinds <;>
    simp only [dst, Destination.replies, reduceCtorEq, false_and, or_false, true_and] at subFits <;> omega

/-- A transaction in range is read back from its bytes, whatever the byte of a sub-unit it does not have (R183). -/
theorem txnSpecOf_bytesWith (x : Byte) (t : TxnSpec) (ok : t.ok = true) : txnSpecOf (t.bytesWith x) = some t := by
  obtain ⟨-, sub, command, args, retry⟩ := t.ok_iff.mp ok
  have dest := destinationOfByte_destinationByte t ok
  have retryRead : inRange 0 3 (byte t.retryLimit) = some t.retryLimit :=
    inRange_eq_some_iff.mpr ⟨byte_toNat (by omega), by omega, retry⟩
  have count : (byte t.args.length).toNat ≤ 8 := by rw [byte_toNat (by omega)]; exact args
  unfold TxnSpec.bytesWith TxnSpec.bytes
  cases given : t.subUnit with
  | none =>
    rw [given] at dest
    refine txnSpecOf_eq_some_iff.mpr ⟨_, txnClassOfCode_code _, dest, retryRead, ?_, command, count, rfl, rfl⟩
    exact given.symm ▸ rfl
  | some u =>
    rw [given] at dest
    obtain ⟨small, replies⟩ := sub u given
    refine txnSpecOf_eq_some_iff.mpr ⟨_, txnClassOfCode_code _, dest, retryRead, ?_, command, count, rfl, rfl⟩
    have subRead : inRange 0 15 (byte u) = some u := inRange_eq_some_iff.mpr ⟨byte_toNat (by omega), by omega, small⟩
    cases dst : t.dest with
    | station n => simp [subUnitOf, subRead, given]
    | group n => rw [dst] at replies; cases replies
    | all => rw [dst] at replies; cases replies

/-- The bytes of a transaction in range fit BUS-SEND (R173). -/
theorem bodyFits_bytesWith (x : Byte) (t : TxnSpec) (ok : t.ok = true) : bodyFits .busSend (t.bytesWith x) = true := by
  obtain ⟨-, -, -, args, -⟩ := t.ok_iff.mp ok
  unfold TxnSpec.bytesWith TxnSpec.bytes bodyFits
  have count : t.args.length % 256 = t.args.length := Nat.mod_eq_of_lt (by omega)
  split <;> simp [count, Config.maxBody] <;> omega

/-! ### What BUS-SEND answers (R5, R6) -/

/-- A part that takes a request at once takes it at either level of LRDY. -/
theorem LinkReady.withLrdy {s : State} (h : LinkReady s) (held : Bool) : LinkReady (withLrdy held s) :=
  ⟨h.on, h.intake, h.slot⟩

/-- A request whose body fits is answered as its owning block answers it. -/
theorem hostRequest_answers {k : RequestKind} {tag : Byte} {body data : List Byte} {s t : State} {st : ReplyStatus}
    (ready : LinkReady s) (fits : bodyFits k body = true) (owner : answerOwner k body s = ⟨st, data, t⟩) :
    hostRequest k tag body s = answered k.code tag st data t := by
  rw [hostRequest_ready k tag body s ready, answerRequest_fits k body s fits, owner]

/-- BUS-SEND as the Dispatch Queue answers it. -/
theorem exec_busSend {tag : Byte} {held : Bool} {body data : List Byte} {s t : State} {st : ReplyStatus} (ready : LinkReady s)
    (fits : bodyFits .busSend body = true) (answer : answerBusSend body (withLrdy held s) = ⟨st, data, t⟩) :
    exec (.busSend tag body held) s = .next (answered 0x38#8 tag st data t) :=
  congrArg Host.Outcome.next (hostRequest_answers (k := .busSend) (ready.withLrdy held) fits answer)

/-- A body that spells no transaction is refused (Table 1-3, steps 1 to 3). -/
theorem answerBusSend_badFields {body : List Byte} (s : State) (h : txnSpecOf body = none) :
    answerBusSend body s = refuse .badArg s := by
  unfold answerBusSend
  rw [h]

/-- A transaction that the Station Table refuses is refused with that status (Table 1-3, steps 4 and 5). -/
theorem answerBusSend_stationRefusal {body : List Byte} {s : State} {t : TxnSpec} {st : ReplyStatus}
    (h : txnSpecOf body = some t) (r : stationRefusal t s = some st) : answerBusSend body s = refuse st s := by
  unfold answerBusSend
  simp only [h, r]

/-- A transaction that the Station Table accepts is refused by a full queue (Table 1-3, step 6). -/
theorem answerBusSend_full {body : List Byte} {s : State} {t : TxnSpec} (h : txnSpecOf body = some t)
    (r : stationRefusal t s = none) (full : s.queue.refusesHost = true) : answerBusSend body s = refuse .full s := by
  unfold answerBusSend
  simp only [h, r, full, if_true]

/-- The Station Table refuses an UNDEFINED station. -/
theorem stationRefusal_undefined {t : TxnSpec} {n : Nat} {s : State} (dst : t.dest = .station n)
    (gone : (s.stationAt n).state = .undefined) : stationRefusal t s = some .notFound := by
  unfold stationRefusal
  simp only [dst, gone, if_true]

/-- The Station Table refuses a sub-unit that does not fit a defined station. -/
theorem stationRefusal_misfit {t : TxnSpec} {n : Nat} {s : State} (dst : t.dest = .station n)
    (defined : (s.stationAt n).state ≠ .undefined) (misfit : (s.stationAt n).fits t.subUnit = false) :
    stationRefusal t s = some .badArg := by
  unfold stationRefusal
  simp [dst, defined, misfit]

/-- The Station Table accepts a group, ALL, and a defined station that the sub-unit fits. -/
theorem stationRefusal_none {t : TxnSpec} {s : State}
    (h : ∀ n : Nat, t.dest = .station n → (s.stationAt n).state ≠ .undefined ∧ (s.stationAt n).fits t.subUnit = true) :
    stationRefusal t s = none := by
  unfold stationRefusal
  split
  · rename_i n dst
    obtain ⟨defined, fits⟩ := h n dst
    rw [if_neg defined, if_pos fits]
  · rfl
  · rfl

/-- The queue refuses a HOST transaction at 24 queued or 20 of HOST origin (R5). -/
theorem refusesHost_iff (q : DispatchQueue) : q.refusesHost = true ↔ 24 ≤ q.count ∨ 20 ≤ q.hostCount := by
  unfold DispatchQueue.refusesHost
  rw [Bool.or_eq_true, decide_eq_true_iff, decide_eq_true_iff]
  rfl

/-- Settles O28, step by step of Table 1-3. -/
theorem busSendRefuses : Obligations.BusSendRefuses := by
  intro s tag x held ready
  refine ⟨?badFields, ?undefined, ?misfit, ?full⟩
  case badFields =>
    intro cls dest sub command retry count args fits bad
    exact exec_busSend ready fits (answerBusSend_badFields _ (txnSpecOf_eq_none_of_badTxnFields args bad))
  case undefined =>
    intro t n ok dst gone
    exact exec_busSend ready (bodyFits_bytesWith x t ok)
      (answerBusSend_stationRefusal (txnSpecOf_bytesWith x t ok) (stationRefusal_undefined dst gone))
  case misfit =>
    intro t n ok dst defined misfit
    exact exec_busSend ready (bodyFits_bytesWith x t ok)
      (answerBusSend_stationRefusal (txnSpecOf_bytesWith x t ok) (stationRefusal_misfit dst defined misfit))
  case full =>
    intro t ok accepted full
    exact exec_busSend ready (bodyFits_bytesWith x t ok)
      (answerBusSend_full (txnSpecOf_bytesWith x t ok) (stationRefusal_none accepted) ((refusesHost_iff _).mpr full))

/-! ### What BUS-CANCEL answers (R12, R13, R14) -/

/-- BUS-CANCEL as the Dispatch Queue answers it. -/
theorem exec_busCancel {tag hi lo : Byte} {held : Bool} {data : List Byte} {s t : State} {st : ReplyStatus} (ready : LinkReady s)
    (answer : answerBusCancel [hi, lo] (withLrdy held s) = ⟨st, data, t⟩) :
    exec (.busCancel tag [hi, lo] held) s = .next (answered 0x39#8 tag st data t) :=
  congrArg Host.Outcome.next (hostRequest_answers (k := .busCancel) (ready.withLrdy held) rfl answer)

/-- Ticket 0 is refused. -/
theorem answerBusCancel_zero {hi lo : Byte} (s : State) (zero : word16 hi lo = 0) :
    answerBusCancel [hi, lo] s = refuse .badArg s := if_pos zero

/-- A queued transaction leaves the queue and its cancelled record is handed on. -/
theorem answerBusCancel_queued {hi lo : Byte} {s : State} {t : Transaction} (nonzero : word16 hi lo ≠ 0)
    (found : s.queue.find (word16 hi lo) = some t) :
    answerBusCancel [hi, lo] s =
      accept [] (handCompletion (cancelledRecord t) { s with queue := s.queue.remove (word16 hi lo) }) := by
  unfold answerBusCancel
  simp only [nonzero, found, if_false]

/-- The ticket of the HELD transaction closes its referral. -/
theorem answerBusCancel_held {hi lo : Byte} {s : State} {r : Referral} (nonzero : word16 hi lo ≠ 0)
    (absent : s.queue.find (word16 hi lo) = none) (current : s.engine.ticket = some (word16 hi lo))
    (referral : s.engine.referral = some r) :
    answerBusCancel [hi, lo] s = accept [] (closeReferral r .cancelled [] s) := by
  unfold answerBusCancel
  simp only [nonzero, absent, current, referral, if_false, if_true]

/-- The ticket of the RUNNING transaction is refused. -/
theorem answerBusCancel_running {hi lo : Byte} {s : State} (nonzero : word16 hi lo ≠ 0)
    (absent : s.queue.find (word16 hi lo) = none) (current : s.engine.ticket = some (word16 hi lo))
    (referral : s.engine.referral = none) : answerBusCancel [hi, lo] s = refuse .busy s := by
  unfold answerBusCancel
  simp only [nonzero, absent, current, referral, if_false, if_true]

/-- A ticket that no live transaction carries is refused. -/
theorem answerBusCancel_unknown {hi lo : Byte} {s : State} (nonzero : word16 hi lo ≠ 0)
    (absent : s.queue.find (word16 hi lo) = none) (other : s.engine.ticket ≠ some (word16 hi lo)) :
    answerBusCancel [hi, lo] s = refuse .notFound s := by
  unfold answerBusCancel
  simp only [nonzero, absent, other, if_false]

/-- The transaction found by a ticket carries it. -/
theorem find_ticket {q : DispatchQueue} {k : Nat} {t : Transaction} (found : q.find k = some t) : t.ticket = k := by
  simpa using List.find?_some found

/-- Settles O29, by the stage of the transaction that carries the ticket. -/
theorem busCancelAnswers : Obligations.BusCancelAnswers := by
  intro s tag hi lo held ready k s1
  have ticket : k = word16 hi lo := by unfold word16; omega
  rw [ticket]
  refine ⟨?zero, ?queued, ?heldOne, ?running, ?unknown⟩
  case zero => exact fun zero => exec_busCancel ready (answerBusCancel_zero s1 zero)
  case queued =>
    intro t nonzero found
    have carries := find_ticket found
    refine exec_busCancel ready ((answerBusCancel_queued (s := s1) nonzero found).trans ?_)
    rw [← carries]
    rfl
  case heldOne =>
    exact fun r nonzero absent current referral =>
      exec_busCancel ready (answerBusCancel_held (s := s1) nonzero absent current referral)
  case running =>
    exact fun nonzero absent current referral =>
      exec_busCancel ready (answerBusCancel_running (s := s1) nonzero absent current referral)
  case unknown => exact fun nonzero absent other => exec_busCancel ready (answerBusCancel_unknown (s := s1) nonzero absent other)

end Sys2Proof.Machine
end

section
/-! SUPPORT. The Line Engine's requests: what BUS-PAUSE answers in each engine state, the line configuration record that a
LINE-CONFIG body spells, and what LINE-CONFIG and CONFIG-READ answer. -/

namespace Sys2Proof.Machine

/-! ### What BUS-PAUSE answers (R55) -/

/-- BUS-PAUSE as the Line Engine answers it. -/
theorem exec_busPause {tag : Byte} {data : List Byte} {s t : State} {st : ReplyStatus} (ready : LinkReady s)
    (answer : answerBusPause [] s = ⟨st, data, t⟩) : exec (.busPause tag []) s = .next (answered 0x3A#8 tag st data t) :=
  congrArg Host.Outcome.next (hostRequest_answers (k := .busPause) ready rfl answer)

/-- An IDLE engine enters PAUSED. -/
theorem answerBusPause_idle {s : State} (idle : s.engine.state = .idle) :
    answerBusPause [] s = accept [] (enterPaused s) := by
  simp only [answerBusPause, idle]

/-- An engine with work in progress takes the pause as pending. -/
theorem answerBusPause_working {s : State} (working : s.engine.state = .active ∨ s.engine.state = .held) :
    answerBusPause [] s = accept [] (setPause true s) := by
  obtain active | held := working
  · simp only [answerBusPause, active]
  · simp only [answerBusPause, held]

/-- A PAUSED engine stays as it is. -/
theorem answerBusPause_paused {s : State} (paused : s.engine.state = .paused) : answerBusPause [] s = accept [] s := by
  simp only [answerBusPause, paused]

/-- An engine in FAULT refuses the pause. -/
theorem answerBusPause_fault {s : State} (fault : s.engine.state = .fault) : answerBusPause [] s = refuse .state s := by
  simp only [answerBusPause, fault]

/-- Entering PAUSED: BUS-STATE leaves the Poll Unit as it was, so the cycle abandoned is the one in progress (R55, R110). -/
theorem enterPaused_eq (s : State) :
    enterPaused s =
      (let s1 := raise (.busState .paused) { s with engine := { s.engine with state := .paused, pausePending := false } }
       if s.poll.state = .cycling then { s1 with poll := { s.poll with state := .idle, cycle := none, due := false } }
       else s1) := by
  unfold enterPaused pollEngineStopped
  rw [raise_poll]

/-- Settles O30, by the engine state. -/
theorem busPauseAnswers : Obligations.BusPauseAnswers := by
  intro s tag ready
  refine ⟨?idle, ?working, ?paused, ?fault⟩
  case idle => exact fun idle => exec_busPause ready ((answerBusPause_idle idle).trans (congrArg (accept []) (enterPaused_eq s)))
  case working => exact fun working => exec_busPause ready (answerBusPause_working working)
  case paused => exact fun paused => exec_busPause ready (answerBusPause_paused paused)
  case fault => exact fun fault => exec_busPause ready (answerBusPause_fault fault)

/-! ### The line configuration record (Table 3-6, Table 11-6) -/

/-- A line rate is read back from its code. -/
@[simp] theorem lineRateOfCode_code (r : LineRate) : LineRate.ofCode r.code = some r := by cases r <;> rfl

/-- The line rate codes are 0 to 3. -/
theorem lineRateOfCode_le {b : Byte} {r : LineRate} (h : LineRate.ofCode b = some r) : b.toNat ≤ 3 := by
  unfold LineRate.ofCode at h
  split_ifs at h <;> subst b <;> decide

/-- Nine bytes spell a record exactly when each byte, read alone, gives the field in its unit. -/
theorem lineConfigOf_eq_some_iff {a b c d e f g h i : Byte} {r : LineConfig} :
    lineConfigOf [a, b, c, d, e, f, g, h, i] = some r ↔ ∃ stuck backoff holdoff,
      (LineRate.ofCode a = some r.rate ∧ inRange 1 255 b = some r.readyTimeoutMs ∧ inRange 1 255 c = some r.replyWindowMs ∧
        inRange 1 50 d = some stuck ∧ inRange 1 255 e = some backoff ∧ inRange 1 60 f = some r.holdTimeoutS ∧
        inRange 1 15 g = some r.failureThreshold ∧ inRange 1 255 h = some holdoff ∧ inRange 1 15 i = some r.phantomLimit) ∧
      r.lineStuckMs = 100 * stuck ∧ r.busyBackoffMs = 10 * backoff ∧ r.pollHoldoffMs = 10 * holdoff := by
  obtain ⟨rate, ready, window, stuckMs, backoffMs, hold, threshold, holdoffMs, phantom⟩ := r
  simp only [lineConfigOf]
  constructor
  · intro spelled
    split at spelled
    · rename_i ha hb hc hd he
      split at spelled
      · rename_i hf hg hh hi
        cases spelled
        exact ⟨_, _, _, ⟨ha, hb, hc, hd, he, hf, hg, hh, hi⟩, rfl, rfl, rfl⟩
      · cases spelled
    · cases spelled
  · rintro ⟨stuck, backoff, holdoff, ⟨ha, hb, hc, hd, he, hf, hg, hh, hi⟩, rfl, rfl, rfl⟩
    simp only [ha, hb, hc, hd, he, hf, hg, hh, hi]

/-- Nine bytes with one out of its range spell no record. -/
theorem lineConfigOf_eq_none {a b c d e f g h i : Byte}
    (bad : 3 < a.toNat ∨ b.toNat < 1 ∨ c.toNat < 1 ∨ d.toNat < 1 ∨ 50 < d.toNat ∨ e.toNat < 1 ∨ f.toNat < 1 ∨ 60 < f.toNat ∨
      g.toNat < 1 ∨ 15 < g.toNat ∨ h.toNat < 1 ∨ i.toNat < 1 ∨ 15 < i.toNat) :
    lineConfigOf [a, b, c, d, e, f, g, h, i] = none := by
  rw [Option.eq_none_iff_forall_ne_some]
  intro r spelled
  obtain ⟨stuck, backoff, holdoff, ⟨rate, numbers⟩, -⟩ := lineConfigOf_eq_some_iff.mp spelled
  have rate3 := lineRateOfCode_le rate
  simp only [inRange_eq_some_iff] at numbers
  omega

/-- The byte of a number in a range of bytes is read back. -/
theorem inRange_byte {lo hi n : Nat} (low : lo ≤ n) (high : n ≤ hi) (small : hi < 256) : inRange lo hi (byte n) = some n :=
  inRange_eq_some_iff.mpr ⟨byte_toNat (by omega), low, high⟩

/-- A record in range is read back from its nine bytes. -/
theorem lineConfigOf_bytes (c : LineConfig) (ok : c.ok = true) : lineConfigOf c.bytes = some c := by
  unfold LineConfig.ok at ok
  obtain ⟨ready, ready255, window, window255, stuck, stuck5000, stuck100, backoff, backoff2550, backoff10, hold, hold60,
    threshold, threshold15, holdoff, holdoff2550, holdoff10, phantom, phantom15⟩ := of_decide_eq_true ok
  refine lineConfigOf_eq_some_iff.mpr ⟨c.lineStuckMs / 100, c.busyBackoffMs / 10, c.pollHoldoffMs / 10,
    ⟨lineRateOfCode_code _, ?_, ?_, ?_, ?_, ?_, ?_, ?_, ?_⟩, by omega, by omega, by omega⟩
  all_goals exact inRange_byte (by omega) (by omega) (by decide)

/-! ### What LINE-CONFIG and CONFIG-READ answer (R60, R61, R80) -/

/-- The engine runs in IDLE, ACTIVE and HELD. -/
theorem running_eq_true {e : LineEngine} (h : e.state = .idle ∨ e.state = .active ∨ e.state = .held) : e.running = true := by
  unfold LineEngine.running
  obtain idle | active | held := h
  · rw [idle]; rfl
  · rw [active]; rfl
  · rw [held]; rfl

/-- The engine is stopped in PAUSED and FAULT. -/
theorem running_eq_false {e : LineEngine} (h : e.state = .paused ∨ e.state = .fault) : e.running = false := by
  unfold LineEngine.running
  obtain paused | fault := h
  · rw [paused]; rfl
  · rw [fault]; rfl

/-- LINE-CONFIG as the Line Engine answers it. -/
theorem exec_lineConfig {tag : Byte} {body data : List Byte} {s t : State} {st : ReplyStatus} (ready : LinkReady s)
    (nine : body.length = 9) (answer : answerLineConfig body s = ⟨st, data, t⟩) :
    exec (.lineConfig tag body) s = .next (answered 0x3C#8 tag st data t) := by
  have fits : bodyFits .lineConfig body = true := by
    unfold bodyFits
    rw [nine]
    rfl
  exact congrArg Host.Outcome.next (hostRequest_answers (k := .lineConfig) ready fits answer)

/-- CONFIG-READ as the Line Engine answers it. -/
theorem exec_configRead {tag : Byte} {data : List Byte} {s t : State} {st : ReplyStatus} (ready : LinkReady s)
    (answer : answerConfigRead [] s = ⟨st, data, t⟩) : exec (.configRead tag []) s = .next (answered 0x3D#8 tag st data t) :=
  congrArg Host.Outcome.next (hostRequest_answers (k := .configRead) ready rfl answer)

/-- A running engine refuses a new configuration, whatever the body. -/
theorem answerLineConfig_running (body : List Byte) {s : State} (running : s.engine.running = true) :
    answerLineConfig body s = refuse .state s := by
  unfold answerLineConfig
  rw [if_pos running]

/-- A stopped engine refuses a body that spells no record. -/
theorem answerLineConfig_badFields {body : List Byte} {s : State} (stopped : s.engine.running = false)
    (bad : lineConfigOf body = none) : answerLineConfig body s = refuse .badArg s := by
  unfold answerLineConfig
  rw [stopped, bad]
  rfl

/-- A stopped engine takes the record that the body spells, and the Station Table clears its failure counts. -/
theorem answerLineConfig_accepted {body : List Byte} {s : State} {c : LineConfig} (stopped : s.engine.running = false)
    (spelled : lineConfigOf body = some c) :
    answerLineConfig body s = accept [] { s with
      engine := { s.engine with config := c }, stations := s.stations.map (fun r => { r with failures := 0 }) } := by
  unfold answerLineConfig
  rw [stopped, spelled]
  rfl

/-- Settles O32, in the order of the checks of R61. -/
theorem lineConfigAnswers : Obligations.LineConfigAnswers := by
  intro s tag ready
  refine ⟨?running, ?badFields, ?accepted, ?read⟩
  case running =>
    exact fun body nine running => exec_lineConfig ready nine (answerLineConfig_running body (running_eq_true running))
  case badFields =>
    intro a b c d e f g h i stopped bad
    exact exec_lineConfig ready rfl (answerLineConfig_badFields (running_eq_false stopped) (lineConfigOf_eq_none bad))
  case accepted =>
    intro c ok stopped
    exact exec_lineConfig ready rfl (answerLineConfig_accepted (running_eq_false stopped) (lineConfigOf_bytes c ok))
  case read => exact exec_configRead ready rfl

end Sys2Proof.Machine
end

section
/-! SUPPORT. The Station Table's requests: how the fields of a station request are read, which record STN-DEFINE writes, the
bytes STN-READ answers, and what STN-RESTORE does to a record. -/

namespace Sys2Proof.Machine

/-! ### The fields of a station request (R183) -/

/-- A number outside the range is not read. -/
theorem inRange_eq_none_iff {lo hi : Nat} {b : Byte} : inRange lo hi b = none ↔ b.toNat < lo ∨ hi < b.toNat := by
  unfold inRange
  split <;> simp only [reduceCtorEq, false_iff, true_iff] <;> omega

/-- A number in the range is read as the byte's value. -/
theorem inRange_eq_toNat {lo hi : Nat} {b : Byte} (low : lo ≤ b.toNat) (high : b.toNat ≤ hi) :
    inRange lo hi b = some b.toNat :=
  inRange_eq_some_iff.mpr ⟨rfl, low, high⟩

/-- The byte of a byte's value is that byte. -/
theorem byte_of_toNat (b : Byte) : byte b.toNat = b := BitVec.eq_of_toNat_eq (byte_toNat b.isLt)

/-- The bytes up to 1 are 0 and 1. -/
theorem eq_zero_or_eq_one_of_le {b : Byte} (h : b.toNat ≤ 1) : b = 0#8 ∨ b = 1#8 := by
  bv_omega

/-- A yes/no byte up to 1 is read. -/
theorem boolOfByte_of_le {b : Byte} (h : b.toNat ≤ 1) : boolOfByte b = some (b == 1#8) := by
  obtain rfl | rfl := eq_zero_or_eq_one_of_le h
  · rfl
  · rfl

/-- A yes/no byte over 1 is not read. -/
theorem boolOfByte_eq_none {b : Byte} (h : 1 < b.toNat) : boolOfByte b = none := by
  unfold boolOfByte
  rw [if_neg (by bv_omega), if_neg (by bv_omega)]

/-- A policy code up to 1 is read. -/
theorem policyOfCode_of_le {b : Byte} (h : b.toNat ≤ 1) :
    Policy.ofCode b = some (if b = 0#8 then .quarantine else .staySilent) := by
  obtain rfl | rfl := eq_zero_or_eq_one_of_le h
  · rfl
  · rfl

/-- A policy code over 1 is not read. -/
theorem policyOfCode_eq_none {b : Byte} (h : 1 < b.toNat) : Policy.ofCode b = none := by
  unfold Policy.ofCode
  rw [if_neg (by bv_omega), if_neg (by bv_omega)]

/-! ### A request's change of state to UNKNOWN (R76, R79) -/

/-- A change to UNKNOWN raises STATION-STATE and is no news to the Poll Unit. -/
theorem stationChanged_unknown (n : Nat) (old : StationState) (s : State) :
    stationChanged n old .unknown s = raise (.stationState n old .unknown) s := by
  unfold stationChanged
  exact if_neg (by decide)

/-! ### What STN-DEFINE answers (R68) -/

/-- STN-DEFINE as the Station Table answers it. -/
theorem exec_stnDefine {tag n u g p q : Byte} {data : List Byte} {s t : State} {st : ReplyStatus} (ready : LinkReady s)
    (answer : answerStnDefine [n, u, g, p, q] s = ⟨st, data, t⟩) :
    exec (.stnDefine tag [n, u, g, p, q]) s = .next (answered 0x30#8 tag st data t) :=
  congrArg Host.Outcome.next (hostRequest_answers (k := .stnDefine) ready rfl answer)

/-- A definition with a field that is not read is refused. -/
theorem answerStnDefine_badFields {n u g p q : Byte} {s : State}
    (bad : inRange 1 30 n = none ∨ inRange 0 15 u = none ∨ boolOfByte p = none ∨ Policy.ofCode q = none) :
    answerStnDefine [n, u, g, p, q] s = refuse .badArg s := by
  unfold answerStnDefine
  dsimp only
  split
  · rename_i number subUnits pollable policy
    simp only [number, subUnits, pollable, policy, reduceCtorEq, or_self] at bad
  · rfl

/-- A definition whose fields are read is taken for an UNDEFINED station and refused for a defined one. -/
theorem answerStnDefine_fields {n u g p q : Byte} {k su : Nat} {pollable : Bool} {policy : Policy} (s : State)
    (number : inRange 1 30 n = some k) (subUnits : inRange 0 15 u = some su) (poll : boolOfByte p = some pollable)
    (code : Policy.ofCode q = some policy) :
    answerStnDefine [n, u, g, p, q] s =
      if (s.stationAt k).state = .undefined then
        accept [] (raise (.stationState k .undefined .unknown) (setStation k (Station.define su g pollable policy) s))
      else refuse .state s := by
  unfold answerStnDefine
  simp only [number, subUnits, poll, code, stationChanged_unknown]

/-- Settles O23, in the order of the checks of R68. -/
theorem stnDefineAnswers : Obligations.StnDefineAnswers := by
  intro s tag n u g p q ready
  refine ⟨?badFields, ?defined, ?undefined⟩
  case badFields =>
    intro bad
    refine exec_stnDefine ready (answerStnDefine_badFields ?_)
    obtain low | high | subUnits | pollable | policy := bad
    · exact .inl (inRange_eq_none_iff.mpr (.inl low))
    · exact .inl (inRange_eq_none_iff.mpr (.inr high))
    · exact .inr (.inl (inRange_eq_none_iff.mpr (.inr subUnits)))
    · exact .inr (.inr (.inl (boolOfByte_eq_none pollable)))
    · exact .inr (.inr (.inr (policyOfCode_eq_none policy)))
  all_goals
    intro low high subUnits pollable policy state
    have fields := answerStnDefine_fields (g := g) s (inRange_eq_toNat low high) (inRange_eq_toNat (Nat.zero_le _) subUnits)
      (boolOfByte_of_le pollable) (policyOfCode_of_le policy)
  case defined => exact exec_stnDefine ready (fields.trans (if_neg state))
  case undefined => exact exec_stnDefine ready (fields.trans (if_pos state))

/-! ### What STN-READ and STN-RESTORE answer (R69, R71) -/

/-- STN-READ as the Station Table answers it. -/
theorem exec_stnRead {tag n : Byte} {data : List Byte} {s t : State} {st : ReplyStatus} (ready : LinkReady s)
    (answer : answerStnRead [n] s = ⟨st, data, t⟩) : exec (.stnRead tag [n]) s = .next (answered 0x31#8 tag st data t) :=
  congrArg Host.Outcome.next (hostRequest_answers (k := .stnRead) ready rfl answer)

/-- STN-RESTORE as the Station Table answers it. -/
theorem exec_stnRestore {tag n : Byte} {data : List Byte} {s t : State} {st : ReplyStatus} (ready : LinkReady s)
    (answer : answerStnRestore [n] s = ⟨st, data, t⟩) :
    exec (.stnRestore tag [n]) s = .next (answered 0x33#8 tag st data t) :=
  congrArg Host.Outcome.next (hostRequest_answers (k := .stnRestore) ready rfl answer)

/-- STN-READ of a number outside 1 to 30 is refused. -/
theorem answerStnRead_badNumber {n : Byte} {s : State} (bad : inRange 1 30 n = none) :
    answerStnRead [n] s = refuse .badArg s := by
  unfold answerStnRead
  simp only [bad]

/-- STN-READ of a station answers its record's bytes and leaves the state. -/
theorem answerStnRead_station {n : Byte} {k : Nat} {s : State} (number : inRange 1 30 n = some k) :
    answerStnRead [n] s = accept ((s.stationAt k).readBytes k) s := by
  unfold answerStnRead
  simp only [number]

/-- The bytes of a station record, written out: the status and the time of the last contact are 0 where absent. -/
theorem readBytes_toNat (n : Byte) (r : Station) :
    r.readBytes n.toNat =
      [n, r.state.code, byte r.subUnits, r.groups, boolByte r.pollable, r.policy.code, byte r.failures] ++
        (match r.lastStatus with
          | some b => [0x01#8, b]
          | none => [0x00#8, 0x00#8]) ++
        [boolByte r.servicePending] ++
        (match r.lastContact with
          | some t => [0x01#8] ++ bytes16 t.day ++ [byte t.hour, byte t.minute, byte t.second, byte t.fraction]
          | none => List.replicate 7 0x00#8) := by
  unfold Station.readBytes
  rw [byte_of_toNat]
  cases r.lastStatus with
  | none => cases r.lastContact <;> rfl
  | some status => cases r.lastContact <;> rfl

/-- STN-RESTORE of a number outside 1 to 30 is refused. -/
theorem answerStnRestore_badNumber {n : Byte} {s : State} (bad : inRange 1 30 n = none) :
    answerStnRestore [n] s = refuse .badArg s := by
  unfold answerStnRestore
  simp only [bad]

/-- STN-RESTORE of a station in any state but QUARANTINED is refused. -/
theorem answerStnRestore_other {n : Byte} {k : Nat} {s : State} (number : inRange 1 30 n = some k)
    (other : (s.stationAt k).state ≠ .quarantined) : answerStnRestore [n] s = refuse .state s := by
  unfold answerStnRestore
  simp only [number, other, if_false]

/-- STN-RESTORE of a QUARANTINED station makes it UNKNOWN with no failures and raises STATION-STATE. -/
theorem answerStnRestore_quarantined {n : Byte} {k : Nat} {s : State} (number : inRange 1 30 n = some k)
    (quarantined : (s.stationAt k).state = .quarantined) :
    answerStnRestore [n] s = accept [] (raise (.stationState k .quarantined .unknown)
      (setStation k { s.stationAt k with state := .unknown, failures := 0 } s)) := by
  unfold answerStnRestore
  simp only [number, quarantined, if_true, stationChanged_unknown]

/-- Settles O24, by the number's range and, for STN-RESTORE, the station's state. -/
theorem stnReadRestoreAnswers : Obligations.StnReadRestoreAnswers := by
  intro s tag n ready
  refine ⟨?readBadNumber, ?read, ?restoreBadNumber, ?restoreOther, ?restore⟩
  case readBadNumber => exact fun bad => exec_stnRead ready (answerStnRead_badNumber (inRange_eq_none_iff.mpr bad))
  case read =>
    intro low high r
    have answer : answerStnRead [n] s = accept (r.readBytes n.toNat) s := answerStnRead_station (inRange_eq_toNat low high)
    exact exec_stnRead ready (answer.trans (congrArg (accept · s) (readBytes_toNat n r)))
  case restoreBadNumber => exact fun bad => exec_stnRestore ready (answerStnRestore_badNumber (inRange_eq_none_iff.mpr bad))
  case restoreOther =>
    exact fun low high other => exec_stnRestore ready (answerStnRestore_other (inRange_eq_toNat low high) other)
  case restore =>
    exact fun low high quarantined =>
      exec_stnRestore ready (answerStnRestore_quarantined (inRange_eq_toNat low high) quarantined)

end Sys2Proof.Machine
end

section
/-! SUPPORT. The calendar requests: the bytes CAL-READ answers, the order of checks of CAL-SET, and what CAL-CLEAR, CAL-RUN
and CAL-STOP answer in RUNNING and in STOPPED. -/

namespace Sys2Proof.Machine

/-- A request that works no line pin, as the owner of its kind answers it: the kinds differ in the owner alone (R173). -/
theorem exec_ownerAnswers {i : Instr} (k : RequestKind) {tag : Byte} {body data : List Byte} {s t : State} {st : ReplyStatus}
    (request : exec i s = .next (hostRequest k tag body s)) (ready : LinkReady s) (fits : bodyFits k body = true)
    (owner : answerOwner k body s = ⟨st, data, t⟩) : exec i s = .next (answered k.code tag st data t) := by
  rw [request, hostRequest_answers ready fits owner]

/-! ### What CAL-READ and CAL-SET answer (R122, R123) -/

/-- The bytes of a calendar record, written out (Table 11-2). -/
theorem calendarReadBytes_eq (c : Calendar) :
    c.readBytes =
      [byte (c.day / 256), byte c.day, byte c.hour, byte c.minute, byte c.second, byte c.fraction,
        byte ((if c.running then 1 else 0) + (if c.timeValid then 2 else 0) + (if c.oscStable then 4 else 0))] := rfl

/-- CAL-READ answers the record's bytes and leaves the state. -/
theorem answerCalRead_eq (s : State) : answerCalRead [] s = accept s.cal.readBytes s := rfl

/-- CAL-SET refuses a time of day that does not exist, in either run state. -/
theorem answerCalSet_badTime {hi lo h m c : Byte} (s : State) (bad : 23 < h.toNat ∨ 59 < m.toNat ∨ 59 < c.toNat) :
    answerCalSet [hi, lo, h, m, c] s = refuse .badArg s := if_pos bad

/-- For a time of day that exists, the run state alone decides CAL-SET. -/
theorem answerCalSet_goodTime {hi lo h m c : Byte} (s : State) (hour : h.toNat ≤ 23) (minute : m.toNat ≤ 59)
    (second : c.toNat ≤ 59) :
    answerCalSet [hi, lo, h, m, c] s =
      if s.cal.running then refuse .state s
      else accept [] { s with cal := { s.cal with
        day := word16 hi lo, hour := h.toNat, minute := m.toNat, second := c.toNat, fraction := 0, timeValid := true } } :=
  if_neg (by omega)

/-- A RUNNING calendar refuses CAL-SET. -/
theorem answerCalSet_running {hi lo h m c : Byte} {s : State} (hour : h.toNat ≤ 23) (minute : m.toNat ≤ 59)
    (second : c.toNat ≤ 59) (running : s.cal.running = true) : answerCalSet [hi, lo, h, m, c] s = refuse .state s :=
  (answerCalSet_goodTime s hour minute second).trans (if_pos running)

/-- A STOPPED calendar takes the time; the day is the number of the first two bytes. -/
theorem answerCalSet_stopped {hi lo h m c : Byte} {s : State} (hour : h.toNat ≤ 23) (minute : m.toNat ≤ 59)
    (second : c.toNat ≤ 59) (stopped : s.cal.running = false) :
    answerCalSet [hi, lo, h, m, c] s = accept [] { s with cal := { s.cal with
      day := 256 * hi.toNat + lo.toNat, hour := h.toNat, minute := m.toNat, second := c.toNat, fraction := 0,
      timeValid := true } } := by
  have day : word16 hi lo = 256 * hi.toNat + lo.toNat := by unfold word16; omega
  rw [answerCalSet_goodTime s hour minute second, day, stopped]
  rfl

/-- Settles O17: CAL-READ by the record's bytes, CAL-SET in the order of the checks of R123. -/
theorem calReadSetAnswers : Obligations.CalReadSetAnswers := by
  intro s tag ready
  refine ⟨?read, fun hi lo h m c => ⟨?badTime, ?running, ?stopped⟩⟩
  case read =>
    exact exec_ownerAnswers .calRead rfl ready rfl
      ((answerCalRead_eq s).trans (congrArg (accept · s) (calendarReadBytes_eq s.cal)))
  case badTime => exact fun bad => exec_ownerAnswers .calSet rfl ready rfl (answerCalSet_badTime s bad)
  case running =>
    exact fun hour minute second running =>
      exec_ownerAnswers .calSet rfl ready rfl (answerCalSet_running hour minute second running)
  case stopped =>
    exact fun hour minute second stopped =>
      exec_ownerAnswers .calSet rfl ready rfl (answerCalSet_stopped hour minute second stopped)

/-! ### What CAL-CLEAR, CAL-RUN and CAL-STOP answer (R124, R125, R126) -/

/-- A RUNNING calendar refuses CAL-CLEAR. -/
theorem answerCalClear_running {s : State} (running : s.cal.running = true) : answerCalClear [] s = refuse .state s :=
  if_pos running

/-- CAL-CLEAR in STOPPED sets the counters to 0 and the time to not valid. -/
theorem answerCalClear_stopped {s : State} (stopped : s.cal.running = false) :
    answerCalClear [] s = accept [] { s with cal := { s.cal with
      day := 0, hour := 0, minute := 0, second := 0, fraction := 0, timeValid := false } } :=
  if_neg (Bool.eq_false_iff.mp stopped)

/-- A RUNNING calendar stays as it is on CAL-RUN, whatever the oscillator. -/
theorem answerCalRun_running {s : State} (running : s.cal.running = true) : answerCalRun [] s = accept [] s :=
  if_pos running

/-- In STOPPED, OSC-STABLE alone decides CAL-RUN. -/
theorem answerCalRun_stopped {s : State} (stopped : s.cal.running = false) :
    answerCalRun [] s =
      if s.cal.oscStable then accept [] { s with cal := { s.cal with running := true, divider := 0 } }
      else refuse .notReady s :=
  if_neg (Bool.eq_false_iff.mp stopped)

/-- CAL-STOP stops a RUNNING calendar and clears its divider. -/
theorem answerCalStop_running {s : State} (running : s.cal.running = true) :
    answerCalStop [] s = accept [] { s with cal := { s.cal with running := false, divider := 0 } } :=
  congrArg (accept []) (if_pos running)

/-- A STOPPED calendar stays as it is on CAL-STOP. -/
theorem answerCalStop_stopped {s : State} (stopped : s.cal.running = false) : answerCalStop [] s = accept [] s :=
  congrArg (accept []) (if_neg (Bool.eq_false_iff.mp stopped))

/-- Settles O18, by the run state and, for CAL-RUN in STOPPED, by OSC-STABLE. -/
theorem calRunStopClearAnswers : Obligations.CalRunStopClearAnswers := by
  intro s tag ready
  refine ⟨?clearRunning, ?clearStopped, ?runRunning, ?runStable, ?runUnstable, ?stopRunning, ?stopStopped⟩
  case clearRunning =>
    exact fun running => exec_ownerAnswers .calClear rfl ready rfl (answerCalClear_running running)
  case clearStopped =>
    exact fun stopped => exec_ownerAnswers .calClear rfl ready rfl (answerCalClear_stopped stopped)
  case runRunning => exact fun running => exec_ownerAnswers .calRun rfl ready rfl (answerCalRun_running running)
  case runStable =>
    exact fun stopped stable =>
      exec_ownerAnswers .calRun rfl ready rfl ((answerCalRun_stopped stopped).trans (if_pos stable))
  case runUnstable =>
    exact fun stopped unstable =>
      exec_ownerAnswers .calRun rfl ready rfl
        ((answerCalRun_stopped stopped).trans (if_neg (Bool.eq_false_iff.mp unstable)))
  case stopRunning => exact fun running => exec_ownerAnswers .calStop rfl ready rfl (answerCalStop_running running)
  case stopStopped => exact fun stopped => exec_ownerAnswers .calStop rfl ready rfl (answerCalStop_stopped stopped)

end Sys2Proof.Machine
end

section
/-! SUPPORT. The schedule table's requests: the definition that an SCH-WRITE body spells, the entry it leaves, the bytes SCH-READ
and SCH-LIST answer, and what SCH-ENABLE, SCH-DISABLE and SCH-DELETE do to an entry in each state. -/

namespace Sys2Proof.Machine

/-! ### The fields of an entry definition (Table 11-5, R183) -/

/-- A yes/no byte is read back. -/
@[simp] theorem boolOfByte_boolByte (b : Bool) : boolOfByte (boolByte b) = some b := by cases b <;> rfl

/-- An overlap is read back from its code. -/
@[simp] theorem overlapOfCode_code (o : Overlap) : Overlap.ofCode o.code = some o := by cases o <;> rfl

/-- A report policy is read back from its code. -/
@[simp] theorem reportOfCode_code (p : Report) : Report.ofCode p.code = some p := by cases p <;> rfl

/-- The yes/no bytes are 0 and 1. -/
theorem boolOfByte_le {b : Byte} {v : Bool} (h : boolOfByte b = some v) : b.toNat ≤ 1 := by
  by_contra high
  rw [boolOfByte_eq_none (by omega)] at h
  cases h

/-- The overlap codes are 0 and 1. -/
theorem overlapOfCode_le {b : Byte} {o : Overlap} (h : Overlap.ofCode b = some o) : b.toNat ≤ 1 := by
  unfold Overlap.ofCode at h
  split_ifs at h <;> subst b <;> decide

/-- The report policy codes are 0 to 2. -/
theorem reportOfCode_le {b : Byte} {p : Report} (h : Report.ofCode b = some p) : b.toNat ≤ 2 := by
  unfold Report.ofCode at h
  split_ifs at h <;> subst b <;> decide

/-- The byte that stands for ANY is 255. -/
theorem eq_anyCode_iff {b : Byte} : b = 0xFF#8 ↔ b.toNat = 255 := by
  bv_omega

/-- A number below 255 is not the byte that stands for ANY. -/
theorem byte_ne_anyCode {n : Nat} (h : n < 255) : byte n ≠ 0xFF#8 := by
  rw [ne_eq, eq_anyCode_iff, byte_toNat (by omega)]
  omega

/-- A match field that is read is ANY or in its range. -/
theorem anyOr_le {hi : Nat} {b : Byte} {o : Option Nat} (h : anyOr hi b = some o) : b.toNat = 255 ∨ b.toNat ≤ hi := by
  unfold anyOr at h
  split at h
  · rename_i any
    exact .inl (eq_anyCode_iff.mp any)
  · obtain ⟨n, read, -⟩ := Option.map_eq_some_iff.mp h
    obtain ⟨rfl, -, high⟩ := inRange_eq_some_iff.mp read
    exact .inr high

/-- A match field in range is read back from its byte. -/
theorem anyOr_anyByte {hi : Nat} {o : Option Nat} (ok : o.all (· ≤ hi) = true) (small : hi < 255) :
    anyOr hi (anyByte o) = some o := by
  cases o with
  | none => rfl
  | some n =>
    have high : n ≤ hi := of_decide_eq_true ok
    unfold anyOr anyByte
    rw [if_neg (byte_ne_anyCode (by omega)), inRange_byte (Nat.zero_le _) high (by omega)]
    rfl

/-- A day pattern that is read is ANY, or a cycle length 1 to 64 with a smaller phase. -/
theorem dayOf_cases {len ph : Byte} {p : Option DayPattern} (h : dayOf len ph = some p) :
    len.toNat = 255 ∨ (1 ≤ len.toNat ∧ len.toNat ≤ 64 ∧ ph.toNat < len.toNat) := by
  unfold dayOf at h
  split at h
  · rename_i any
    exact .inl (eq_anyCode_iff.mp any)
  · obtain ⟨bounds, -⟩ := Option.ite_none_right_eq_some.mp h
    exact .inr bounds

/-- A cycle length 1 to 64 with a smaller phase is read. -/
theorem dayOf_pattern {len ph : Byte} (low : 1 ≤ len.toNat) (high : len.toNat ≤ 64) (phase : ph.toNat < len.toNat) :
    dayOf len ph = some (some { length := len.toNat, phase := ph.toNat }) := by
  unfold dayOf
  rw [if_neg (by rw [eq_anyCode_iff]; omega), if_pos ⟨low, high, phase⟩]

/-- A day pattern in range is read back from its two bytes, whatever the phase byte of ANY. -/
theorem dayOf_bytes (ph : Byte) {p : Option DayPattern}
    (ok : p.all (fun d => 1 ≤ d.length ∧ d.length ≤ 64 ∧ d.phase < d.length) = true) :
    dayOf (anyByte (p.map (·.length))) ((p.map fun d => byte d.phase).getD ph) = some p := by
  cases p with
  | none => rfl
  | some d =>
    obtain ⟨low, high, phase⟩ := of_decide_eq_true ok
    have length : (byte d.length).toNat = d.length := byte_toNat (by omega)
    have rest : (byte d.phase).toNat = d.phase := byte_toNat (by omega)
    have read := dayOf_pattern (len := byte d.length) (ph := byte d.phase) (by omega) (by omega) (by omega)
    rw [length, rest] at read
    exact read

/-! ### The action of a definition -/

/-- The bytes of an action with sub-unit byte `x` where a TRANSACT gives no sub-unit (R183). -/
def Action.bytesWith (x : Byte) : Action → List Byte
  | .notify note => [0x00#8, note]
  | .transact t => 0x01#8 :: t.bytesWith x

/-- A TRANSACT spells what its transaction's bytes spell. -/
theorem actionOf_transact (rest : List Byte) : actionOf (0x01#8 :: rest) = (txnSpecOf rest).map Action.transact := rfl

/-- An action in range is read back from its bytes. -/
theorem actionOf_bytesWith (x : Byte) {a : Action} (ok : a.ok = true) : actionOf (a.bytesWith x) = some a := by
  cases a with
  | notify note => rfl
  | transact t =>
    unfold Action.bytesWith
    rw [actionOf_transact, txnSpecOf_bytesWith x t ok]
    rfl

/-- An action code over 1 spells no action. -/
theorem actionOf_unknown {act : Byte} (rest : List Byte) (h : 1 < act.toNat) : actionOf (act :: rest) = none :=
  (if_neg (by bv_omega)).trans (if_neg (by bv_omega))

/-- A TRANSACT with a transaction field out of range spells no action. -/
theorem actionOf_badTxnFields {cls dest sub command retry count : Byte} (args : List Byte)
    (bad : badTxnFields cls dest sub command retry count = true) :
    actionOf (0x01#8 :: cls :: dest :: sub :: command :: retry :: count :: args) = none := by
  rw [actionOf_transact, txnSpecOf_eq_none_of_badTxnFields args bad]
  rfl

/-! ### A whole definition -/

/-- A body spells a definition exactly when each part, read alone, gives the field. -/
theorem entryDefOf_eq_some_iff {sec min hr len ph rep ov rpt : Byte} {action : List Byte} {d : EntryDef} :
    entryDefOf (sec :: min :: hr :: len :: ph :: rep :: ov :: rpt :: action) = some d ↔
      (inRange 0 59 sec = some d.second ∧ anyOr 59 min = some d.minute ∧ anyOr 23 hr = some d.hour ∧ dayOf len ph = some d.day) ∧
      boolOfByte rep = some d.repeats ∧ Overlap.ofCode ov = some d.overlap ∧ Report.ofCode rpt = some d.report ∧
      actionOf action = some d.action := by
  obtain ⟨second, minute, hour, day, repeats, overlap, report, act⟩ := d
  simp only [entryDefOf]
  constructor
  · intro spelled
    split at spelled
    · rename_i hs hm hh hd
      split at spelled
      · rename_i hr ho hp ha
        cases spelled
        exact ⟨⟨hs, hm, hh, hd⟩, hr, ho, hp, ha⟩
      · cases spelled
    · cases spelled
  · rintro ⟨⟨hs, hm, hh, hd⟩, hr, ho, hp, ha⟩
    simp only [hs, hm, hh, hd, hr, ho, hp, ha]

/-- The bytes of a definition, part by part; the phase byte is free where the day is ANY (R183). -/
theorem EntryDef.bytesWith_eq (x ph : Byte) (d : EntryDef) :
    d.bytesWith x ph =
      byte d.second :: anyByte d.minute :: anyByte d.hour :: anyByte (d.day.map (·.length)) ::
        (d.day.map fun p => byte p.phase).getD ph :: boolByte d.repeats :: d.overlap.code :: d.report.code ::
        d.action.bytesWith x := by
  obtain ⟨second, minute, hour, day, repeats, overlap, report, act⟩ := d
  cases act with
  | notify note => cases day <;> rfl
  | transact t =>
    obtain ⟨cls, dest, sub, command, args, retry⟩ := t
    cases day <;> cases sub <;> rfl

/-- The ranges of a definition's fields, one by one. -/
theorem EntryDef.ok_iff (d : EntryDef) : d.ok = true ↔
    d.second ≤ 59 ∧ d.minute.all (· ≤ 59) = true ∧ d.hour.all (· ≤ 23) = true ∧
    d.day.all (fun p => 1 ≤ p.length ∧ p.length ≤ 64 ∧ p.phase < p.length) = true ∧ d.action.ok = true := by
  simp only [EntryDef.ok, Bool.and_eq_true, decide_eq_true_eq, and_assoc]

/-- A definition in range is read back from its bytes, whatever the bytes that have no effect (R183). -/
theorem entryDefOf_bytesWith (x ph : Byte) (d : EntryDef) (ok : d.ok = true) : entryDefOf (d.bytesWith x ph) = some d := by
  obtain ⟨second, minute, hour, day, action⟩ := d.ok_iff.mp ok
  rw [d.bytesWith_eq]
  exact entryDefOf_eq_some_iff.mpr
    ⟨⟨inRange_byte (Nat.zero_le _) second (by decide), anyOr_anyByte minute (by decide), anyOr_anyByte hour (by decide),
      dayOf_bytes ph day⟩, boolOfByte_boolByte _, overlapOfCode_code _, reportOfCode_code _, actionOf_bytesWith x action⟩

/-- Fields that Table 8-5 refuses in its steps 1 and 2 spell no definition: each field of a spelled one is in range. -/
theorem entryDefOf_eq_none_of_badEntryFields {sec min hr len ph rep ov rpt : Byte} (action : List Byte)
    (bad : badEntryFields sec min hr len ph rep ov rpt = true) :
    entryDefOf (sec :: min :: hr :: len :: ph :: rep :: ov :: rpt :: action) = none := by
  rw [Option.eq_none_iff_forall_ne_some]
  intro d spelled
  obtain ⟨⟨hs, hm, hh, hd⟩, hr, ho, hp, -⟩ := entryDefOf_eq_some_iff.mp spelled
  obtain ⟨second, -, second59⟩ := inRange_eq_some_iff.mp hs
  have minute := anyOr_le hm
  have hour := anyOr_le hh
  have day := dayOf_cases hd
  have repeats := boolOfByte_le hr
  have overlap := overlapOfCode_le ho
  have report := reportOfCode_le hp
  simp only [badEntryFields, Bool.or_eq_true, decide_eq_true_eq] at bad
  omega

/-- A definition whose action is not read is not read. -/
theorem entryDefOf_eq_none_of_action {sec min hr len ph rep ov rpt : Byte} {action : List Byte} (bad : actionOf action = none) :
    entryDefOf (sec :: min :: hr :: len :: ph :: rep :: ov :: rpt :: action) = none := by
  rw [Option.eq_none_iff_forall_ne_some]
  intro d spelled
  obtain ⟨-, -, -, -, read⟩ := entryDefOf_eq_some_iff.mp spelled
  rw [bad] at read
  cases read

/-! ### What SCH-WRITE answers (R142, R143) -/

/-- The initial states are ARMED and DISABLED, codes 1 and 2. -/
theorem initialOfByte_eq_none {b : Byte} (h : b.toNat < 1 ∨ 2 < b.toNat) : initialOfByte b = none := by
  unfold initialOfByte
  rw [if_neg (by bv_omega), if_neg (by bv_omega)]

/-- An initial state is read back from its code. -/
theorem initialOfByte_code {st : EntryState} (h : st = .armed ∨ st = .disabled) : initialOfByte (byte st.code) = some st := by
  obtain rfl | rfl := h
  · rfl
  · rfl

/-- The bytes of a transaction in range: the six that stand ahead of the arguments, the sixth their count. -/
theorem TxnSpec.bytesWith_eq (x : Byte) (t : TxnSpec) :
    t.bytesWith x =
      t.cls.code :: destinationByte t.dest t.subUnit :: (t.subUnit.map byte).getD x :: t.command :: byte t.retryLimit ::
        byte t.args.length :: t.args := by
  unfold TxnSpec.bytesWith TxnSpec.bytes
  cases t.subUnit <;> rfl

/-- The bytes of a definition in range fit SCH-WRITE (R173). -/
theorem bodyFits_schWrite (index initial x ph : Byte) (d : EntryDef) (ok : d.ok = true) :
    bodyFits .schWrite (index :: initial :: d.bytesWith x ph) = true := by
  obtain ⟨-, -, -, -, action⟩ := d.ok_iff.mp ok
  rw [d.bytesWith_eq]
  cases act : d.action with
  | notify note => rfl
  | transact t =>
    rw [act] at action
    obtain ⟨-, -, -, args, -⟩ := t.ok_iff.mp action
    have count : t.args.length % 256 = t.args.length := Nat.mod_eq_of_lt (by omega)
    unfold Action.bytesWith
    simp only [t.bytesWith_eq]
    simp [bodyFits, count, Config.maxBody]
    omega

/-- A TRANSACT misfits exactly where its station is defined and the sub-unit does not fit it (Table 8-5, step 5). -/
theorem misfits_eq_true_iff {a : Action} {s : State} : a.misfits s = true ↔
    ∃ (t : TxnSpec) (n : Nat), a = .transact t ∧ t.dest = .station n ∧ (s.stationAt n).state ≠ .undefined ∧
      (s.stationAt n).fits t.subUnit = false := by
  unfold Action.misfits Station.defined
  cases a with
  | notify note => simp
  | transact t => cases dst : t.dest <;> simp [dst]

/-- SCH-WRITE of a definition that is read: refused where the action misfits, otherwise the entry is replaced. -/
theorem answerSchWrite_read {index initial : Byte} {rest : List Byte} {i : Nat} {st : EntryState} {d : EntryDef} (s : State)
    (number : inRange 0 39 index = some i) (state : initialOfByte initial = some st) (spelled : entryDefOf rest = some d) :
    answerSchWrite (index :: initial :: rest) s =
      if d.action.misfits s then refuse .badArg s
      else accept [byte (wrap256 (s.entryAt i).generation)] (setEntry i ((s.entryAt i).written st d) s) := by
  simp only [answerSchWrite, number, state, spelled]
  rfl

/-- SCH-WRITE with a part that is not read is refused. -/
theorem answerSchWrite_unread {index initial : Byte} {rest : List Byte} (s : State)
    (bad : inRange 0 39 index = none ∨ initialOfByte initial = none ∨ entryDefOf rest = none) :
    answerSchWrite (index :: initial :: rest) s = refuse .badArg s := by
  simp only [answerSchWrite]
  split
  · rename_i number state spelled
    simp only [number, state, spelled, reduceCtorEq, or_self] at bad
  · rfl

/-- SCH-WRITE as the Schedule Unit answers it. -/
theorem exec_schWrite {tag : Byte} {body data : List Byte} {s t : State} {st : ReplyStatus} (ready : LinkReady s)
    (fits : bodyFits .schWrite body = true) (answer : answerSchWrite body s = ⟨st, data, t⟩) :
    exec (.schWrite tag body) s = .next (answered 0x20#8 tag st data t) :=
  exec_ownerAnswers .schWrite rfl ready fits answer

/-- Settles O19: a definition in range is read back and the station check decides; a byte out of range is not read. -/
theorem schWriteAnswers : Obligations.SchWriteAnswers := by
  intro s tag ready
  refine ⟨?inRange, ?badFields, ?badTransaction⟩
  case inRange =>
    intro i initial d x ph index state ok g body
    have fits : bodyFits .schWrite body = true := bodyFits_schWrite _ _ x ph d ok
    have read : answerSchWrite body s = _ :=
      answerSchWrite_read s (inRange_byte (Nat.zero_le i) (by omega) (by decide)) (initialOfByte_code state)
        (entryDefOf_bytesWith x ph d ok)
    refine ⟨fun fit => ?accepted, fun t n act dst defined misfit => ?misfit⟩
    case accepted =>
      have fitting : ¬ d.action.misfits s = true := by
        rw [misfits_eq_true_iff]
        rintro ⟨t, n, act, dst, defined, misfit⟩
        exact Bool.false_ne_true (misfit.symm.trans (fit t n act dst defined))
      exact exec_schWrite ready fits (read.trans (if_neg fitting))
    case misfit =>
      exact exec_schWrite ready fits (read.trans (if_pos (misfits_eq_true_iff.mpr ⟨t, n, act, dst, defined, misfit⟩)))
  case badFields =>
    intro index initial sec min hr len ph rep ov rpt act rest fits bad
    refine exec_schWrite ready fits (answerSchWrite_unread s ?_)
    obtain high | low | high | fields | unknown := bad
    · exact .inl (inRange_eq_none_iff.mpr (.inr high))
    · exact .inr (.inl (initialOfByte_eq_none (.inl low)))
    · exact .inr (.inl (initialOfByte_eq_none (.inr high)))
    · exact .inr (.inr (entryDefOf_eq_none_of_badEntryFields _ fields))
    · exact .inr (.inr (entryDefOf_eq_none_of_action (actionOf_unknown rest unknown)))
  case badTransaction =>
    intro index initial sec min hr len ph rep ov rpt cls dest sub command retry count args fits bad
    exact exec_schWrite ready fits
      (answerSchWrite_unread s (.inr (.inr (entryDefOf_eq_none_of_action (actionOf_badTxnFields args bad)))))

/-! ### What SCH-READ answers (R144) -/

/-- SCH-READ of an index over 39 is refused. -/
theorem answerSchRead_badIndex {index : Byte} (s : State) (bad : inRange 0 39 index = none) :
    answerSchRead [index] s = refuse .badArg s := by
  simp only [answerSchRead, bad]

/-- SCH-READ of an entry answers its bytes and leaves the state. -/
theorem answerSchRead_entry {index : Byte} {i : Nat} (s : State) (number : inRange 0 39 index = some i) :
    answerSchRead [index] s = accept (s.entryAt i).readBytes s := by
  simp only [answerSchRead, number]

/-- The bytes of an entry, written out: last fired and the live ticket are 0 where absent. -/
theorem entryReadBytes_eq (e : Entry) :
    e.readBytes =
      [byte e.state.code, byte e.generation] ++ e.defn.bytes ++ bytes16 e.fireCount ++ [byte e.missCount] ++
        (match e.lastFired with
          | some t => [0x01#8] ++ bytes16 t.day ++ [byte t.hour, byte t.minute, byte t.second, byte t.fraction]
          | none => List.replicate 7 0x00#8) ++
        (match e.liveTicket with
          | some t => bytes16 t
          | none => [0x00#8, 0x00#8]) := by
  unfold Entry.readBytes
  cases e.lastFired with
  | none => cases e.liveTicket <;> rfl
  | some time => cases e.liveTicket <;> rfl

/-! ### What SCH-LIST answers (R148) -/

/-- An entry state's code fits two bits. -/
theorem entryStateCode_lt (st : EntryState) : st.code < 4 := by cases st <;> decide

/-- Four entries' states are the four digits, base 4, of their state byte. -/
theorem packedByte_digit (a b c d : Entry) (rest : List Entry) {j : Nat} (h : j < 4) :
    (byte (a.state.code + 4 * b.state.code + 16 * c.state.code + 64 * d.state.code)).toNat / 4 ^ j % 4 =
      ((a :: b :: c :: d :: rest).getD j (Entry.cleared 0)).state.code := by
  have ha := entryStateCode_lt a.state
  have hb := entryStateCode_lt b.state
  have hc := entryStateCode_lt c.state
  have hd := entryStateCode_lt d.state
  rw [byte_toNat (by omega)]
  obtain rfl | rfl | rfl | rfl : j = 0 ∨ j = 1 ∨ j = 2 ∨ j = 3 := by omega
  all_goals
    simp only [List.getD_cons_zero, List.getD_cons_succ]
    omega

/-- A list of four entries or more begins with four entries. -/
theorem exists_four_of_length {n : Nat} {l : List Entry} (h : l.length = 4 * (n + 1)) :
    ∃ a b c d rest, l = a :: b :: c :: d :: rest ∧ rest.length = 4 * n := by
  match l, h with
  | a :: b :: c :: d :: rest, h =>
    simp only [List.length_cons] at h
    exact ⟨a, b, c, d, rest, rfl, by omega⟩

/-- Four entries take one state byte. -/
theorem packStates_length (n : Nat) (l : List Entry) (h : l.length = 4 * n) : (packStates l).length = n := by
  induction n generalizing l with
  | zero =>
    rw [List.eq_nil_of_length_eq_zero h]
    rfl
  | succ n ih =>
    obtain ⟨a, b, c, d, rest, rfl, len⟩ := exists_four_of_length h
    exact congrArg (· + 1) (ih rest len)

/-- Entry 4k + j stands in digit j, base 4, of state byte k. -/
theorem packStates_digit (n : Nat) (l : List Entry) (h : l.length = 4 * n) {k j : Nat} (hk : k < n) (hj : j < 4) :
    ((packStates l).getD k 0#8).toNat / 4 ^ j % 4 = (l.getD (4 * k + j) (Entry.cleared 0)).state.code := by
  induction n generalizing l k with
  | zero => omega
  | succ n ih =>
    obtain ⟨a, b, c, d, rest, rfl, len⟩ := exists_four_of_length h
    cases k with
    | zero =>
      rw [Nat.mul_zero, Nat.zero_add]
      exact packedByte_digit a b c d rest hj
    | succ k =>
      have place : 4 * (k + 1) + j = 4 * k + j + 4 := by omega
      rw [place]
      exact ih rest len (by omega)

/-- The bytes of SCH-LIST: ten state bytes and then the forty generations. -/
theorem listBytes_spec {l : List Entry} (forty : l.length = 40) :
    (listBytes l).length = 50 ∧
    (∀ i < 40, (listBytes l).getD (10 + i) 0#8 = byte (l.getD i (Entry.cleared 0)).generation) ∧
    (∀ k < 10, ∀ j < 4, ((listBytes l).getD k 0#8).toNat / 4 ^ j % 4 = (l.getD (4 * k + j) (Entry.cleared 0)).state.code) := by
  have ten := packStates_length 10 l forty
  unfold listBytes
  refine ⟨?length, ?generations, ?states⟩
  case length => rw [List.length_append, List.length_map, ten, forty]
  case generations =>
    intro i _
    rw [List.getD_append_right _ _ _ _ (by omega), ten, Nat.add_sub_cancel_left]
    exact List.getD_map l (Entry.cleared 0) fun e => byte e.generation
  case states =>
    intro k hk j hj
    rw [List.getD_append _ _ _ _ (by omega)]
    exact packStates_digit 10 l forty hk hj

/-- SCH-LIST answers the table's bytes and leaves the state. -/
theorem answerSchList_eq (s : State) : answerSchList [] s = accept (listBytes s.schedule) s := rfl

/-- Settles O20, by the entry's bytes and by the place of each entry in the list. -/
theorem schReadListReplies : Obligations.SchReadListReplies := by
  intro s tag ready
  refine ⟨?read, ?badIndex, ?list⟩
  case read =>
    intro index high e
    have answer : answerSchRead [index] s = accept e.readBytes s :=
      answerSchRead_entry s (inRange_eq_toNat (Nat.zero_le _) high)
    exact exec_ownerAnswers .schRead rfl ready rfl (answer.trans (congrArg (accept · s) (entryReadBytes_eq e)))
  case badIndex =>
    exact fun index high =>
      exec_ownerAnswers .schRead rfl ready rfl (answerSchRead_badIndex s (inRange_eq_none_iff.mpr (.inr high)))
  case list =>
    exact fun forty =>
      ⟨listBytes s.schedule, exec_ownerAnswers .schList rfl ready rfl (answerSchList_eq s), listBytes_spec forty⟩

/-! ### What SCH-ENABLE and SCH-DISABLE answer (R145, R146) -/

/-- SCH-ENABLE of an index over 39 is refused. -/
theorem answerSchEnable_badIndex {index : Byte} (s : State) (bad : inRange 0 39 index = none) :
    answerSchEnable [index] s = refuse .badArg s := by
  simp only [answerSchEnable, bad]

/-- SCH-DISABLE of an index over 39 is refused. -/
theorem answerSchDisable_badIndex {index : Byte} (s : State) (bad : inRange 0 39 index = none) :
    answerSchDisable [index] s = refuse .badArg s := by
  simp only [answerSchDisable, bad]

section
variable {index : Byte} {i : Nat} {s : State} (number : inRange 0 39 index = some i)
include number

/-- SCH-ENABLE of an EMPTY entry is refused. -/
theorem answerSchEnable_empty (empty : (s.entryAt i).state = .empty) : answerSchEnable [index] s = refuse .notFound s := by
  simp only [answerSchEnable, number, empty]

/-- SCH-ENABLE leaves an ARMED entry. -/
theorem answerSchEnable_armed (armed : (s.entryAt i).state = .armed) : answerSchEnable [index] s = accept [] s := by
  simp only [answerSchEnable, number, armed]

/-- SCH-ENABLE arms a DISABLED or SPENT entry. -/
theorem answerSchEnable_arms (h : (s.entryAt i).state = .disabled ∨ (s.entryAt i).state = .spent) :
    answerSchEnable [index] s = accept [] (setEntry i { s.entryAt i with state := .armed } s) := by
  obtain disabled | spent := h
  · simp only [answerSchEnable, number, disabled]
  · simp only [answerSchEnable, number, spent]

/-- SCH-DISABLE of an EMPTY entry is refused. -/
theorem answerSchDisable_empty (empty : (s.entryAt i).state = .empty) : answerSchDisable [index] s = refuse .notFound s := by
  simp only [answerSchDisable, number, empty]

/-- SCH-DISABLE leaves a DISABLED entry. -/
theorem answerSchDisable_disabled (disabled : (s.entryAt i).state = .disabled) :
    answerSchDisable [index] s = accept [] s := by
  simp only [answerSchDisable, number, disabled]

/-- SCH-DISABLE disables an ARMED or SPENT entry. -/
theorem answerSchDisable_disables (h : (s.entryAt i).state = .armed ∨ (s.entryAt i).state = .spent) :
    answerSchDisable [index] s = accept [] (setEntry i { s.entryAt i with state := .disabled } s) := by
  obtain armed | spent := h
  · simp only [answerSchDisable, number, armed]
  · simp only [answerSchDisable, number, spent]

end

/-- SCH-ENABLE as the Schedule Unit answers it. -/
theorem exec_schEnable {tag index : Byte} {data : List Byte} {s t : State} {st : ReplyStatus} (ready : LinkReady s)
    (answer : answerSchEnable [index] s = ⟨st, data, t⟩) :
    exec (.schEnable tag [index]) s = .next (answered 0x22#8 tag st data t) :=
  exec_ownerAnswers .schEnable rfl ready rfl answer

/-- SCH-DISABLE as the Schedule Unit answers it. -/
theorem exec_schDisable {tag index : Byte} {data : List Byte} {s t : State} {st : ReplyStatus} (ready : LinkReady s)
    (answer : answerSchDisable [index] s = ⟨st, data, t⟩) :
    exec (.schDisable tag [index]) s = .next (answered 0x23#8 tag st data t) :=
  exec_ownerAnswers .schDisable rfl ready rfl answer

/-- Settles O21, by the index's range and the entry's state. -/
theorem schEnableDisableAnswers : Obligations.SchEnableDisableAnswers := by
  intro s tag index ready e armed disabled
  have number : index.toNat ≤ 39 → inRange 0 39 index = some index.toNat := inRange_eq_toNat (Nat.zero_le _)
  refine ⟨?badIndex, ?empty, ?armed, ?disabled, ?spent⟩
  case badIndex =>
    intro high
    have bad : inRange 0 39 index = none := inRange_eq_none_iff.mpr (.inr high)
    exact ⟨exec_schEnable ready (answerSchEnable_badIndex s bad), exec_schDisable ready (answerSchDisable_badIndex s bad)⟩
  case empty =>
    exact fun high state => ⟨exec_schEnable ready (answerSchEnable_empty (number high) state),
      exec_schDisable ready (answerSchDisable_empty (number high) state)⟩
  case armed =>
    exact fun high state => ⟨exec_schEnable ready (answerSchEnable_armed (number high) state),
      exec_schDisable ready (answerSchDisable_disables (number high) (.inl state))⟩
  case disabled =>
    exact fun high state => ⟨exec_schEnable ready (answerSchEnable_arms (number high) (.inl state)),
      exec_schDisable ready (answerSchDisable_disabled (number high) state)⟩
  case spent =>
    exact fun high state => ⟨exec_schEnable ready (answerSchEnable_arms (number high) (.inr state)),
      exec_schDisable ready (answerSchDisable_disables (number high) (.inr state))⟩

/-! ### What SCH-DELETE answers (R147) -/

/-- SCH-DELETE of an index over 39 is refused. -/
theorem answerSchDelete_badIndex {index : Byte} (s : State) (bad : inRange 0 39 index = none) :
    answerSchDelete [index] s = refuse .badArg s := by
  simp only [answerSchDelete, bad]

/-- SCH-DELETE of an EMPTY entry is refused; any other is cleared with the next generation. -/
theorem answerSchDelete_entry {index : Byte} {i : Nat} (s : State) (number : inRange 0 39 index = some i) :
    answerSchDelete [index] s =
      if (s.entryAt i).state = .empty then refuse .notFound s
      else accept [byte (wrap256 (s.entryAt i).generation)]
        (setEntry i (Entry.cleared (wrap256 (s.entryAt i).generation)) s) := by
  simp only [answerSchDelete, number]

/-- SCH-DELETE as the Schedule Unit answers it. -/
theorem exec_schDelete {tag index : Byte} {data : List Byte} {s t : State} {st : ReplyStatus} (ready : LinkReady s)
    (answer : answerSchDelete [index] s = ⟨st, data, t⟩) :
    exec (.schDelete tag [index]) s = .next (answered 0x24#8 tag st data t) :=
  exec_ownerAnswers .schDelete rfl ready rfl answer

/-- Settles O22, by the index's range and the entry's state. -/
theorem schDeleteAnswers : Obligations.SchDeleteAnswers := by
  intro s tag index ready e g
  have entry := fun high => answerSchDelete_entry s (inRange_eq_toNat (b := index) (hi := 39) (Nat.zero_le _) high)
  refine ⟨?badIndex, ?empty, ?other⟩
  case badIndex =>
    exact fun high => exec_schDelete ready (answerSchDelete_badIndex s (inRange_eq_none_iff.mpr (.inr high)))
  case empty => exact fun high empty => exec_schDelete ready ((entry high).trans (if_pos empty))
  case other => exact fun high other => exec_schDelete ready ((entry high).trans (if_neg other))

end Sys2Proof.Machine
end

section
/-! SUPPORT. The Schedule Unit's events: the parts of a firing as the spec counts them, a firing by its action, and a completion
record that reaches the unit. -/

namespace Sys2Proof.Machine

/-! ### The parts of a firing (R136, R137, R138, R140) -/

/-- A saturating count is the least of its greatest value and the next number. -/
theorem sat_eq_min (max n : Nat) : sat max n = min max (n + 1) := by
  unfold sat
  split <;> omega

/-- A firing that counts, written out. -/
theorem fired_eq (e : Entry) (c : Calendar) :
    e.fired c.stamp =
      { e with fireCount := min 65535 (e.fireCount + 1), lastFired := if c.timeValid then some c.counters else none } := by
  unfold Entry.fired bump
  rw [sat_eq_min]
  rfl

/-- A firing that was skipped or dropped, written out. -/
theorem missed_eq (e : Entry) : e.missed = { e with missCount := min 255 (e.missCount + 1) } := by
  unfold Entry.missed
  rw [sat_eq_min]

/-- A firing makes no claim exactly under overlap SKIP with a live ticket. -/
theorem skips_eq_true_iff {e : Entry} : e.skips = true ↔ e.defn.overlap = .skip ∧ e.liveTicket ≠ none := by
  unfold Entry.skips
  simp [Option.isSome_iff_ne_none]

/-! ### A firing by its action (R136, R137, R139) -/

/-- A NOTIFY raises SCH-FIRED with its note. -/
theorem fireEntry_notify {s : State} {i : Nat} {note : Byte} (ev : SecondBoundary)
    (act : (s.entryAt i).defn.action = .notify note) :
    fireEntry ev i s = raise (firedNotice i (s.entryAt i) (.notified note) ev)
      (setEntry i ((s.entryAt i).fired s.cal.stamp).spend s) := by
  simp only [fireEntry, act]

section
variable {s : State} {i : Nat} {t : TxnSpec} (ev : SecondBoundary) (act : (s.entryAt i).defn.action = .transact t)
include act

/-- A TRANSACT that skips counts a miss. -/
theorem fireEntry_skipped (skips : (s.entryAt i).skips = true) :
    fireEntry ev i s =
      if (s.entryAt i).defn.report = .none then setEntry i (s.entryAt i).missed.spend s
      else raise (firedNotice i (s.entryAt i) .skipped ev) (setEntry i (s.entryAt i).missed.spend s) := by
  simp only [fireEntry, act, skips, if_true]

/-- A TRANSACT that a full queue refuses counts a miss. -/
theorem fireEntry_dropped (claims : ¬ (s.entryAt i).skips = true) (full : 24 ≤ s.queue.count) :
    fireEntry ev i s =
      if (s.entryAt i).defn.report = .none then setEntry i (s.entryAt i).missed.spend s
      else raise (firedNotice i (s.entryAt i) .droppedFull ev) (setEntry i (s.entryAt i).missed.spend s) := by
  have refused : ¬ s.queue.count < Config.queueCapacity := Nat.not_lt.mpr full
  simp only [fireEntry, act, claims, refused, if_false, Bool.false_eq_true]

/-- A TRANSACT that the queue takes is admitted, and its ticket becomes the entry's live ticket. -/
theorem fireEntry_queued (claims : ¬ (s.entryAt i).skips = true) (room : s.queue.count < 24) :
    fireEntry ev i s =
      let s1 := setEntry i (({ s.entryAt i with liveTicket := some s.ticketToGive } : Entry).fired s.cal.stamp).spend
        (admission (.schedule i (s.entryAt i).generation) t s)
      if (s.entryAt i).defn.report = .all then raise (firedNotice i (s.entryAt i) (.queued s.ticketToGive) ev) s1 else s1 := by
  have taken : s.queue.count < Config.queueCapacity := room
  simp only [fireEntry, act, claims, taken, if_false, if_true, Bool.false_eq_true]

end

/-- Settles O47, by the action and, for a TRANSACT, by overlap and the queue's room. -/
theorem firingByAction : Obligations.FiringByAction := by
  intro s i ev e spend now missed skipped _ _
  have skips : e.skips = true ↔ skipped := skips_eq_true_iff
  have miss : setEntry i e.missed.spend s = missed := by rw [missed_eq]; rfl
  refine ⟨?notify, ?skip, ?full, ?room⟩
  case notify =>
    intro note act
    rw [fireEntry_notify ev act, fired_eq]
    rfl
  case skip =>
    intro t act skip
    rw [← miss]
    exact fireEntry_skipped ev act (skips.mpr skip)
  case full =>
    intro t act claim full
    rw [← miss]
    exact fireEntry_dropped ev act (mt skips.mp claim) full
  case room =>
    intro t act claim room s1
    rw [fireEntry_queued ev act (mt skips.mp claim) room, fired_eq]
    rfl

/-! ### A completion record at the Schedule Unit (R17, R141) -/

/-- Which report policies call for a TXN-DONE. -/
theorem wantsDone_eq_true_iff {p : Report} {o : TxnOutcome} :
    p.wantsDone o = true ↔ p = .all ∨ (p = .misses ∧ o ≠ .done) := by
  cases p <;> simp [Report.wantsDone]

/-- The live ticket of entry i is cleared where it is the record's. -/
def clearLiveTicket (i ticket : Nat) (s : State) : State :=
  if (s.entryAt i).liveTicket = some ticket then setEntry i { s.entryAt i with liveTicket := none } s else s

/-- A record of another generation changes nothing. -/
theorem takeReport_stale {c : Completion} {s : State} {i g : Nat} (origin : c.origin = .schedule i g)
    (stale : (s.entryAt i).generation ≠ g) : takeReport c s = s := by
  simp only [takeReport, origin, stale, if_false]

/-- A record of the entry's generation clears the live ticket it names and is reported as the policy calls for. -/
theorem takeReport_current {c : Completion} {s : State} {i g : Nat} (origin : c.origin = .schedule i g)
    (current : (s.entryAt i).generation = g) :
    takeReport c s =
      if (s.entryAt i).defn.report.wantsDone c.outcome then raise (.txnDone c) (clearLiveTicket i c.ticket s)
      else clearLiveTicket i c.ticket s := by
  subst current
  simp only [takeReport, origin, if_true]
  rfl

/-- COMPLETION_REPORT takes the oldest record, and the link is served after it. -/
theorem exec_completionReport {s t : State} {c : Completion} {rest : List Completion} (vdd : s.vdd = true)
    (waiting : s.reports = c :: rest) (taken : takeReport c { s with reports := rest } = t) :
    exec .completionReport s = .next (serveLink t) := by
  have next : takeNextReport s = t := by
    simp only [takeNextReport, waiting]
    exact taken
  have powered : mainEvent takeNextReport s = serveLink (takeNextReport s) := if_pos vdd
  rw [next] at powered
  exact congrArg Host.Outcome.next powered

/-- Settles O48, by the record's generation and the report policy. -/
theorem completionReportsTaken : Obligations.CompletionReportsTaken := by
  intro s c rest i g vdd waiting origin s1 e s2
  refine ⟨?stale, ?reported, ?silent⟩
  case stale => exact fun stale => exec_completionReport vdd waiting (takeReport_stale (s := s1) origin stale)
  all_goals
    intro current policy
    have taken := takeReport_current (s := s1) origin current
  case reported =>
    exact exec_completionReport vdd waiting (taken.trans (if_pos (wantsDone_eq_true_iff.mpr policy)))
  case silent =>
    have quiet : ¬ e.defn.report.wantsDone c.outcome = true := by
      rw [wantsDone_eq_true_iff]
      obtain unreported | ⟨misses, done⟩ := policy
      · simp [unreported]
      · simp [misses, done]
    exact exec_completionReport vdd waiting (taken.trans (if_neg quiet))

end Sys2Proof.Machine
end

section
/-! SUPPORT. The Notice Unit: a raised notice by the room in the queue, the notices that an acknowledged number removes and the
NOTICE-LOST that takes a freed slot, what the four notice requests answer, and when ATTN is asserted. -/

namespace Sys2Proof.Machine

/-! ### A raised notice by the room in the queue (R153, R154) -/

/-- With a slot free, a raised notice takes the counter's number and goes to the tail. -/
theorem raise_of_room {s : State} (b : NoticeBody) (room : s.notices.queue.length < 16) :
    raise b s = { s with notices := { s.notices with
      queue := s.notices.queue ++ [{ seq := s.notices.seqCounter, body := b, transmitted := false,
                                     timestamp := if s.cal.timeValid then some s.cal.counters else none }],
      seqCounter := (s.notices.seqCounter + 1) % 256 } } :=
  congrArg (fun u => { s with notices := u }) (if_pos room)

/-- With no slot free, a raised notice is counted as lost and leaves no other trace. -/
theorem raise_of_full {s : State} (b : NoticeBody) (full : 16 ≤ s.notices.queue.length) :
    raise b s = { s with notices := { s.notices with lostCount := min 255 (s.notices.lostCount + 1) } } := by
  have dropped : s.notices.raise s.cal.stamp b = { s.notices with lostCount := sat 255 s.notices.lostCount } :=
    if_neg (Nat.not_lt.mpr full)
  rw [raise, dropped, sat_eq_min]

/-- Settles O34, by the room in the queue and, without room, by the room in the lost count. -/
theorem raisedNoticeAppends : Obligations.RaisedNoticeAppends := by
  intro s b
  refine ⟨raise_of_room b, ?counted, ?saturated⟩
  case counted =>
    intro full below
    rw [raise_of_full b full, Nat.min_eq_right below]
  case saturated =>
    intro full top
    have stays : min 255 (s.notices.lostCount + 1) = s.notices.lostCount := by omega
    rw [raise_of_full b full, stays]

/-! ### What NOTE-ACK removes, and NOTICE-LOST (R155, R159) -/

/-- The first held notice with a number stands at the place that counts the notices older than it. -/
theorem findIdx?_seq {old new : List Notice} {x : Notice} {k : Nat} (seq : x.seq = k) (older : ∀ y ∈ old, y.seq ≠ k) :
    (old ++ x :: new).findIdx? (fun y => y.seq == k) = some old.length := by
  have absent : old.findIdx? (fun y => y.seq == k) = none :=
    List.findIdx?_eq_none_iff.mpr fun y held => beq_false_of_ne (older y held)
  simp [List.findIdx?_append, absent, List.findIdx?_cons, seq]

/-- What stays after the notices through `x` leave. -/
theorem removeThrough_eq {s : State} {old new : List Notice} {x : Notice} (held : s.notices.queue = old ++ x :: new) :
    removeThrough old.length s = { s with notices := { s.notices with queue := new } } := by
  have rest : s.notices.queue.drop (old.length + 1) = new := by simp [held]
  rw [removeThrough, rest]

/-- With nothing lost there is nothing to report. -/
theorem reportLost_of_none {s : State} (zero : s.notices.lostCount = 0) : reportLost s = s :=
  if_neg fun ⟨lost, _⟩ => lost.ne' zero

/-- With notices lost and a slot free, NOTICE-LOST is raised with the count, which returns to 0. -/
theorem reportLost_of_room {s : State} (lost : 0 < s.notices.lostCount) (room : s.notices.queue.length < 16) :
    reportLost s = { s with notices := { s.notices with
      queue := s.notices.queue ++ [{ seq := s.notices.seqCounter, body := .noticeLost s.notices.lostCount, transmitted := false,
                                     timestamp := if s.cal.timeValid then some s.cal.counters else none }],
      seqCounter := (s.notices.seqCounter + 1) % 256, lostCount := 0 } } :=
  (if_pos ⟨lost, room⟩).trans (raise_of_room _ room)

/-- NOTE-ACK refuses a number that no held notice has. -/
theorem answerNoteAck_unknown {n : Byte} {s : State} (absent : ∀ x ∈ s.notices.queue, x.seq ≠ n.toNat) :
    answerNoteAck [n] s = refuse .notFound s := by
  have missing : s.notices.queue.findIdx? (fun x => x.seq == n.toNat) = none :=
    List.findIdx?_eq_none_iff.mpr fun x held => beq_false_of_ne (absent x held)
  simp only [answerNoteAck, missing]

/-- NOTE-ACK of a held number: its notice and the older ones leave, and then the lost count is looked at. -/
theorem answerNoteAck_held {n : Byte} {s : State} {old new : List Notice} {x : Notice}
    (held : s.notices.queue = old ++ x :: new) (seq : x.seq = n.toNat) (older : ∀ y ∈ old, y.seq ≠ n.toNat) :
    answerNoteAck [n] s =
      accept [byte (old.length + 1)] (reportLost { s with notices := { s.notices with queue := new } }) := by
  have place : s.notices.queue.findIdx? (fun y => y.seq == n.toNat) = some old.length :=
    held ▸ findIdx?_seq seq older
  simp only [answerNoteAck, place, removeThrough_eq held]

/-- Settles O35: the acknowledged notice leaves, so a slot is free for NOTICE-LOST wherever at most 16 were held. -/
theorem noteAckAnswers : Obligations.NoteAckAnswers := by
  intro s tag n ready
  refine ⟨?unknown, fun old new x held seq older few => ⟨?nothingLost, ?someLost⟩⟩
  case unknown => exact fun absent => exec_ownerAnswers .noteAck rfl ready rfl (answerNoteAck_unknown absent)
  all_goals
    intro lost
    have removed := answerNoteAck_held held seq older
  case nothingLost =>
    rw [reportLost_of_none (s := { s with notices := { s.notices with queue := new } }) lost] at removed
    exact exec_ownerAnswers .noteAck rfl ready rfl removed
  case someLost =>
    have room : new.length < 16 := by
      rw [held, List.length_append, List.length_cons] at few
      omega
    rw [reportLost_of_room (s := { s with notices := { s.notices with queue := new } }) lost room] at removed
    exact exec_ownerAnswers .noteAck rfl ready rfl removed

/-! ### What NOTE-FETCH and NOTE-REPLAY answer (R158, R160) -/

/-- NOTE-FETCH refuses a count outside 1 to 16, in either mode. -/
theorem answerNoteFetch_badCount {n : Byte} (s : State) (bad : n.toNat < 1 ∨ 16 < n.toNat) :
    answerNoteFetch [n] s = refuse .badArg s := by
  simp only [answerNoteFetch, inRange_eq_none_iff.mpr bad]

/-- For a count from 1 to 16, the delivery mode alone decides NOTE-FETCH. -/
theorem answerNoteFetch_goodCount {n : Byte} (s : State) (low : 1 ≤ n.toNat) (high : n.toNat ≤ 16) :
    answerNoteFetch [n] s =
      if s.notices.mode = .push then refuse .state s
      else accept [byte (s.notices.queue.countP (fun x => !x.transmitted))]
        { s with notices := { s.notices with credit := n.toNat } } := by
  simp only [answerNoteFetch, inRange_eq_toNat low high]
  rfl

/-- NOTE-REPLAY answers the number of held notices and marks each untransmitted. -/
theorem answerNoteReplay_eq (s : State) :
    answerNoteReplay [] s = accept [byte s.notices.queue.length] { s with notices := { s.notices with
      queue := s.notices.queue.map (fun x => { x with transmitted := false }) } } := rfl

/-- Settles O36: NOTE-FETCH by its count and then the delivery mode; NOTE-REPLAY has one answer. -/
theorem noteFetchReplayAnswers : Obligations.NoteFetchReplayAnswers := by
  intro s tag n ready
  refine ⟨?badCount, ?push, ?pull, ?replay⟩
  case badCount => exact fun bad => exec_ownerAnswers .noteFetch rfl ready rfl (answerNoteFetch_badCount s bad)
  case push =>
    exact fun low high push =>
      exec_ownerAnswers .noteFetch rfl ready rfl ((answerNoteFetch_goodCount s low high).trans (if_pos push))
  case pull =>
    intro low high pull
    have notPush : s.notices.mode ≠ .push := by simp [pull]
    exact exec_ownerAnswers .noteFetch rfl ready rfl ((answerNoteFetch_goodCount s low high).trans (if_neg notPush))
  case replay => exact exec_ownerAnswers .noteReplay rfl ready rfl (answerNoteReplay_eq s)

/-! ### What NOTE-CONFIG answers, and ATTN (R161, R162) -/

/-- A delivery mode is read back from its code. -/
@[simp] theorem deliveryModeOfCode_code (m : DeliveryMode) : DeliveryMode.ofCode m.code = some m := by cases m <;> rfl

/-- A delivery mode code over 1 is not read. -/
theorem deliveryModeOfCode_eq_none {b : Byte} (h : 1 < b.toNat) : DeliveryMode.ofCode b = none := by
  unfold DeliveryMode.ofCode
  rw [if_neg (by bv_omega), if_neg (by bv_omega)]

/-- NOTE-CONFIG refuses a mode code or an ATTN enable over 1. -/
theorem answerNoteConfig_badFields {m e : Byte} (s : State) (bad : 1 < m.toNat ∨ 1 < e.toNat) :
    answerNoteConfig [m, e] s = refuse .badArg s := by
  obtain mode | enable := bad
  · simp only [answerNoteConfig, deliveryModeOfCode_eq_none mode]
  · cases read : DeliveryMode.ofCode m <;> simp only [answerNoteConfig, read, boolOfByte_eq_none enable]

/-- NOTE-CONFIG takes a mode and an ATTN enable; the credit stays exactly where the mode does. -/
theorem answerNoteConfig_fields {mode : DeliveryMode} {e : Byte} (s : State) (enable : e.toNat ≤ 1) :
    answerNoteConfig [mode.code, e] s = accept [] { s with notices := { s.notices with
      mode := mode, attnEnable := e == 1#8, credit := if mode = s.notices.mode then s.notices.credit else 0 } } := by
  simp only [answerNoteConfig, deliveryModeOfCode_code, boolOfByte_of_le enable]

/-- ATTN is asserted exactly with its enable set and a notice held, on a part that has VDD and is not held in reset. -/
theorem attnAsserted_iff (s : State) :
    s.attnAsserted = true ↔
      s.notices.attnEnable = true ∧ s.notices.queue ≠ [] ∧ s.vdd = true ∧ s.rstnAsserted = false := by
  simp only [State.attnAsserted, State.linkOn, Bool.and_eq_true, Bool.not_eq_true', List.isEmpty_eq_false_iff]
  tauto

/-- Settles O37: NOTE-CONFIG by its two codes, ATTN by its definition. -/
theorem noteConfigAnswers : Obligations.NoteConfigAnswers := by
  refine ⟨fun s tag m e ready => ⟨?badFields, ?fields⟩, attnAsserted_iff⟩
  case badFields => exact fun bad => exec_ownerAnswers .noteConfig rfl ready rfl (answerNoteConfig_badFields s bad)
  case fields =>
    rintro mode rfl enable
    exact exec_ownerAnswers .noteConfig rfl ready rfl (answerNoteConfig_fields s enable)

end Sys2Proof.Machine
end

section
/-! SUPPORT. The information requests: the bytes that GET-INFO and GET-STATUS answer, written out, and what GET-STATS answers to
each clear flag. -/

namespace Sys2Proof.Machine

/-! ### What GET-INFO answers (R177) -/

/-- The identity and the capacities, written out: they are fixed, and the rate comes last. -/
theorem infoBytes_eq (rate : HostRate) :
    infoBytes rate =
      [0x45#8, 0x01#8, 0x3C#8, 0x01#8, 24#8, 20#8, 40#8, 30#8, 16#8, 4#8, 4#8, rate.code] := rfl

/-- GET-INFO answers the identity, the capacities and the rate, and leaves the state. -/
theorem answerGetInfo_eq (s : State) : answerGetInfo [] s = accept (infoBytes s.link.rate) s := rfl

/-- Settles O12: the answer has one case, since GET-INFO checks nothing beyond its empty body. -/
theorem getInfoReplies : Obligations.GetInfoReplies := by
  intro s tag ready
  exact exec_ownerAnswers .getInfo rfl ready rfl
    ((answerGetInfo_eq s).trans (congrArg (accept · s) (infoBytes_eq s.link.rate)))

/-! ### What GET-STATUS answers (R178, Table 10-5) -/

/-- The HOST count is taken over both classes at once (R5). -/
theorem hostCount_eq (q : DispatchQueue) :
    q.hostCount = (q.urgent ++ q.normal).countP (fun t => t.origin == .host) :=
  List.countP_append.symm

/-- The open referral's byte: its id, or 0 where no referral is open. -/
theorem referralByte_eq (referral : Option Referral) :
    byte ((referral.map (·.id)).getD 0) =
      (match referral with
        | some r => byte r.id
        | none => 0x00#8) := by
  cases referral with
  | none => rfl
  | some r => rfl

/-- The fields of Table 10-5, written out from the blocks that own them. -/
theorem statusBytes_eq (s : State) :
    s.statusBytes =
      [s.engine.state.code, boolByte s.engine.pausePending, byte (s.queue.urgent.length + s.queue.normal.length),
        byte ((s.queue.urgent ++ s.queue.normal).countP (fun t => t.origin == .host)),
        (match s.engine.referral with
          | some r => byte r.id
          | none => 0x00#8),
        s.poll.state.code,
        byte ((if s.cal.running then 1 else 0) + (if s.cal.timeValid then 2 else 0) + (if s.cal.oscStable then 4 else 0)),
        byte s.notices.queue.length, byte s.notices.lostCount, s.notices.mode.code, s.notices.lastStart.code] := by
  rw [State.statusBytes, hostCount_eq, referralByte_eq]
  rfl

/-- GET-STATUS answers the status fields and leaves the state. -/
theorem answerGetStatus_eq (s : State) : answerGetStatus [] s = accept s.statusBytes s := rfl

/-- Settles O13: the answer has one case, and its fields are those of the blocks as they stand. -/
theorem getStatusReplies : Obligations.GetStatusReplies := by
  intro s tag ready
  exact exec_ownerAnswers .getStatus rfl ready rfl
    ((answerGetStatus_eq s).trans (congrArg (accept · s) (statusBytes_eq s)))

/-! ### What GET-STATS answers (R179) -/

/-- The fifteen counters written out: the five of the link ahead of the ten of the line, two bytes each. -/
theorem statsBytes_eq (l : LinkCounters) (e : LineCounters) :
    statsBytes l e =
      [l.stray, l.gap, l.length, l.check, l.overflow, e.exchanges, e.retries, e.noReady, e.noReply, e.checkError, e.nacks,
        e.nestedQueries, e.lineFaults, e.holdTimeouts, e.phantomCycles].flatMap bytes16 :=
  List.flatMap_def.symm

/-- GET-STATS with the clear flag 0 answers the counters and leaves the state. -/
theorem answerGetStats_keep (s : State) :
    answerGetStats [0#8] s = accept (statsBytes s.link.counters s.engine.counters) s := rfl

/-- GET-STATS with the clear flag 1 answers the counters as they stood and leaves each at 0. -/
theorem answerGetStats_clear (s : State) :
    answerGetStats [1#8] s = accept (statsBytes s.link.counters s.engine.counters) (clearCounters s) := rfl

/-- GET-STATS refuses a flag over 1. -/
theorem answerGetStats_badFlag {flag : Byte} (s : State) (bad : 1 < flag.toNat) :
    answerGetStats [flag] s = refuse .badArg s := by
  simp only [answerGetStats, boolOfByte_eq_none bad]

/-- Settles O14, by the clear flag. -/
theorem getStatsReplies : Obligations.GetStatsReplies := by
  intro s tag flag ready counters
  have bytes : statsBytes s.link.counters s.engine.counters = counters.flatMap bytes16 := statsBytes_eq _ _
  refine ⟨?keep, ?clear, ?badFlag⟩
  case keep =>
    rintro rfl
    exact exec_ownerAnswers .getStats rfl ready rfl (bytes ▸ answerGetStats_keep s)
  case clear =>
    rintro rfl
    exact exec_ownerAnswers .getStats rfl ready rfl (bytes ▸ answerGetStats_clear s)
  case badFlag => exact fun bad => exec_ownerAnswers .getStats rfl ready rfl (answerGetStats_badFlag s bad)

end Sys2Proof.Machine
end

section
/-! SUPPORT. What a step can do: the acts of the blocks, one constructor for each, and the theorem that every step is a chain of
them. Each invariant is then a proof per act. -/

namespace Sys2Proof.Machine

/-! ### The acts -/

/-- From s to t only the host link, pins that no block records, second boundaries and waiting commands changed. -/
structure Interface (s t : State) : Prop where
  vdd : t.vdd = s.vdd
  latnHeld : t.latnHeld = s.latnHeld
  notices : t.notices = s.notices
  cal : t.cal = s.cal
  schedule : t.schedule = s.schedule
  reports : t.reports = s.reports
  queue : t.queue = s.queue
  engine : t.engine = s.engine
  stations : t.stations = s.stations
  poll : t.poll = s.poll

/-- What one request or event does to the calendar record (R116 to R126, Table 7-3). -/
inductive CalendarStep (c : Calendar) : Calendar → Prop where
  | set (hi lo h m x : Byte) (stopped : c.running = false) (hour : h.toNat ≤ 23) (minute : m.toNat ≤ 59)
      (second : x.toNat ≤ 59) : CalendarStep c
        { c with day := word16 hi lo, hour := h.toNat, minute := m.toNat, second := x.toNat, fraction := 0, timeValid := true }
  | run (stable : c.oscStable = true) : CalendarStep c { c with running := true, divider := 0 }
  | stop : CalendarStep c { c with running := false, divider := 0 }
  | clear : CalendarStep c { c with day := 0, hour := 0, minute := 0, second := 0, fraction := 0, timeValid := false }
  | firstEdge (lost : c.monitor = .lost) : CalendarStep c
      { c with monitor := .starting, settleTimer := some Config.settleMs, monitorTimer := some Config.monitorMs }
  | edge (present : c.monitor ≠ .lost) : CalendarStep c { c with monitorTimer := some Config.monitorMs }
  | countedEdge (present : c.monitor ≠ .lost) (running : c.running = true) (below : c.divider < 127) :
      CalendarStep c { c with monitorTimer := some Config.monitorMs, divider := c.divider + 1 }
  | tick : CalendarStep c { c.advance with divider := 0 }
  | settle (starting : c.monitor = .starting) : CalendarStep c
      { c with monitor := .stable, oscStable := true, settleTimer := none }
  | lose : CalendarStep c c.lose

/-- What an event does to the exchange in progress where it neither begins nor ends it (R26 to R32). -/
inductive ExchangeStep (c : LineConfig) (held : Bool) (x : Exchange) : Exchange → Prop where
  | released : ExchangeStep c held x x.released
  | byteSent (send : x.phase = .send) (more : x.bytesSent + 1 < x.frame.bytes.length) :
      ExchangeStep c held x (({ x with bytesSent := x.bytesSent + 1 } : Exchange).readyWait held c.readyTimeoutMs)
  | turn (send : x.phase = .send) (ready : x.ready = none) (last : ¬ x.bytesSent + 1 < x.frame.bytes.length)
      (reply : x.replyExpected = true) : ExchangeStep c held x (({ x with bytesSent := x.bytesSent + 1 } : Exchange).turn c)
  | turnHeld (turn : x.phase = .turn) : ExchangeStep c held x { x with turnHold := none }
  | byteReceived (b : Byte) (cls : ReplyClass) (count : Nat) (receive : x.phase = .receive)
      (head : replyHeadOf (x.replySoFar.headD b) = some (cls, count)) (more : x.replySoFar.length < count + 2) :
      ExchangeStep c held x (({ x with replySoFar := x.replySoFar ++ [b] } : Exchange).readyWait held c.readyTimeoutMs)

/-- One act of a block, with what the block has checked before it. -/
inductive Act (s : State) : State → Prop where
  | interface {t : State} (h : Interface s t) : Act s t
  -- supplies and starts (spec/00 section 5)
  | start (k : StartKind) (vdd kept : Bool) : Act s (start k { s with vdd := vdd, backupKept := kept })
  | powerLoss : Act s { mainLost s with vdd := false }
  | backupLoss : Act s { s with backupKept := false, cal := Calendar.cold }
  -- calendar (spec/07)
  | calendar {c : Calendar} (h : CalendarStep s.cal c) : Act s { s with cal := c }
  -- notices (spec/09)
  | raise (b : NoticeBody) : Act s (raise b s)
  | noticeTaken : Act s { s with notices := s.notices.taken }
  | noteAck (i : Nat) (held : i < s.notices.queue.length) : Act s (reportLost (removeThrough i s))
  | noteFetch (n : Nat) (most : n ≤ 16) (pull : s.notices.mode ≠ .push) :
      Act s { s with notices := { s.notices with credit := n } }
  | noteReplay : Act s
      { s with notices := { s.notices with queue := s.notices.queue.map (fun n => { n with transmitted := false }) } }
  | noteConfig (m : DeliveryMode) (e : Bool) : Act s { s with notices := { s.notices with
      mode := m, attnEnable := e, credit := if m = s.notices.mode then s.notices.credit else 0 } }
  -- schedule table (spec/08)
  | schWrite (i : Nat) (st : EntryState) (d : EntryDef) (ok : d.ok = true) (state : st = .armed ∨ st = .disabled) :
      Act s (setEntry i ((s.entryAt i).written st d) s)
  | schState (i : Nat) (st : EntryState) (used : (s.entryAt i).state ≠ .empty) (state : st ≠ .empty) :
      Act s (setEntry i { s.entryAt i with state := st } s)
  | schDelete (i : Nat) : Act s (setEntry i (Entry.cleared (wrap256 (s.entryAt i).generation)) s)
  | report : Act s (takeNextReport s)
  -- Station Table (spec/04)
  | stnDefine (n su : Nat) (g : BitVec 8) (p : Bool) (q : Policy) (subUnits : su ≤ 15) :
      Act s (stationChanged n .undefined .unknown (setStation n (Station.define su g p q) s))
  | stnForget (n : Nat) (low : 1 ≤ n) (other : s.engine.station ≠ some n) :
      Act s (stationChanged n (s.stationAt n).state .undefined (setStation n Station.cleared s))
  | stnRestore (n : Nat) : Act s
      (stationChanged n .quarantined .unknown (setStation n { s.stationAt n with state := .unknown, failures := 0 } s))
  -- Dispatch Queue (spec/01)
  | send (t : TxnSpec) (ok : t.ok = true) (room : s.queue.refusesHost = false) :
      Act s (decideGrant (admission .host t s))
  | cancel (t : Transaction) (ticket : Nat) :
      Act s (handCompletion (cancelledRecord t) { s with queue := s.queue.remove ticket })
  -- Line Engine requests (spec/03, spec/05)
  | pause (idle : s.engine.state = .idle) : Act s (enterPaused s)
  | setPause (b : Bool) (working : s.engine.state = .active ∨ s.engine.state = .held) : Act s (setPause b s)
  | resume (stopped : s.engine.state = .paused ∨ s.engine.state = .fault) : Act s (resumeIdle s)
  | lineConfig (c : LineConfig) (stopped : s.engine.running = false) (ok : c.ok = true) : Act s
      { s with engine := { s.engine with config := c }, stations := s.stations.map (fun r => { r with failures := 0 }) }
  | clearCounters : Act s { s with engine := { s.engine with counters := LineCounters.zero } }
  | closeReferral (r : Referral) (c : Closure) (answer : List Byte) (opened : s.engine.referral = some r) (claim : c ≠ .fault) :
      Act s (closeReferral r c answer s)
  -- the station line (spec/02)
  | countHoldTimeout : Act s (countHoldTimeout s)
  | exchangeMoves (x y : Exchange) (current : s.engine.exchange = some x)
      (h : ExchangeStep s.engine.config s.lrdyHeld x y) : Act s (setExchange y s)
  | exchangeEnds (x y : Exchange) (r : AttemptResult) (current : s.engine.exchange = some x) (kind : y.kind = x.kind)
      (received : ∀ a, r = .reply a → x.phase = .receive) : Act s (endExchange y r s)
  | nextAttempt (t : Transaction) (current : s.engine.work = some (.transaction t)) (waits : s.engine.wait ≠ none) :
      Act s (beginAttempt t s)
  -- Poll Unit and grant (spec/06, spec/03)
  | latnUnpowered (held : Bool) (off : s.vdd = false) : Act s { s with latnHeld := held }
  | latnHeld : Act s (pollTest { s with latnHeld := true })
  | latnReleased : Act s (latnReleased { s with latnHeld := false })
  | holdoffExpiry : Act s (pollHoldoffExpiry s)
  | presented : Act s (requestPresented s)
  | decide : Act s (decideGrant s)
  | takeDecided : Act s (takeDecided s)

/-- A chain of acts. -/
abbrev Acts : State → State → Prop := Relation.ReflTransGen Act

/-- An act inside an evaluation: the firing of an ARMED entry, or any other act. -/
inductive ScanAct (s : State) : State → Prop where
  | act {t : State} (h : Act s t) : ScanAct s t
  | fire (ev : SecondBoundary) (i : Nat) (armed : (s.entryAt i).state = .armed) : ScanAct s (fireEntry ev i s)

/-- A chain of acts inside an evaluation. -/
abbrev ScanActs : State → State → Prop := Relation.ReflTransGen ScanAct

theorem Act.acts {s t : State} (h : Act s t) : Acts s t := .single h

theorem Interface.acts {s t : State} (h : Interface s t) : Acts s t := .single (.interface h)

theorem Acts.scanActs {s t : State} (h : Acts s t) : ScanActs s t := Relation.ReflTransGen.mono (fun _ _ => ScanAct.act) _ _ h

theorem interface_link (l : HostLink) (s : State) : Interface s { s with link := l } := by constructor <;> rfl

theorem acts_withPins (p : Pins) (s : State) : Acts s (withPins p s) := Interface.acts (by constructor <;> rfl)

theorem acts_withLrdy (held : Bool) (s : State) : Acts s (withLrdy held s) := Interface.acts (by constructor <;> rfl)

theorem acts_placeReply (f : Frame) (s : State) : Acts s (placeReply f s) := (interface_link _ s).acts

theorem acts_requestLevels (k : RequestKind) (p : Pins) (s : State) : Acts s (requestLevels k p s) := by
  cases k
  case resetPart => exact acts_withPins p s
  case busSend => exact acts_withLrdy _ s
  case busCancel => exact acts_withLrdy _ s
  case busResume => exact acts_withLrdy _ s
  case refAnswer => exact acts_withLrdy _ s
  all_goals exact .refl

end Sys2Proof.Machine
end

section
/-! SUPPORT. What a request can do: the fields it spells are in range, and its answer is a chain of acts. -/

namespace Sys2Proof.Machine

/-! ### What the fields of a request spell is in range -/

/-- What a destination byte spells, with a sub-unit read for it, is in the ranges of Table 1-1. -/
theorem txnSpecOf_ok {cls dest sub command retry count : Byte} {args : List Byte} {t : TxnSpec}
    (spelled : txnSpecOf (cls :: dest :: sub :: command :: retry :: count :: args) = some t) (few : args.length = count.toNat) :
    t.ok = true := by
  obtain ⟨given, -, hd, hr, hu, hm, hn, rfl, rfl⟩ := txnSpecOf_eq_some_iff.mp spelled
  obtain ⟨-, -, retry3⟩ := inRange_eq_some_iff.mp hr
  obtain ⟨-, kinds⟩ := destinationOfByte_cases hd
  refine t.ok_iff.mpr ⟨⟨fun n dst => ?_, fun g dst => ?_⟩, fun u sub => ?_, hm, by omega, retry3⟩
  · simp only [dst, Destination.station.injEq, reduceCtorEq, false_and, or_false] at kinds
    omega
  · simp only [dst, Destination.group.injEq, reduceCtorEq, false_and, or_false, false_or] at kinds
    omega
  · cases given with
    | false => simp [subUnitOf, sub] at hu
    | true =>
      obtain ⟨replies, small, same⟩ := subUnitOf_given hu
      rw [sub, Option.some.injEq] at same
      exact ⟨by omega, replies⟩

/-- A BUS-SEND body that fits carries as many arguments as it says. -/
theorem txnSpecOf_busSend_ok {body : List Byte} {t : TxnSpec} (fits : bodyFits .busSend body = true)
    (spelled : txnSpecOf body = some t) : t.ok = true := by
  match body, spelled with
  | cls :: dest :: sub :: command :: retry :: count :: args, spelled =>
    simp only [bodyFits, Bool.and_eq_true, List.getElem?_cons_succ, List.getElem?_cons_zero, List.length_cons, beq_iff_eq] at fits
    exact txnSpecOf_ok spelled (by omega)

/-- A match field that is read is in its range. -/
theorem anyOr_all {hi : Nat} {b : Byte} {o : Option Nat} (h : anyOr hi b = some o) : o.all (· ≤ hi) = true := by
  unfold anyOr at h
  split at h
  · cases h; rfl
  · obtain ⟨n, read, rfl⟩ := Option.map_eq_some_iff.mp h
    obtain ⟨-, -, high⟩ := inRange_eq_some_iff.mp read
    exact decide_eq_true high

/-- A day pattern that is read is in its range. -/
theorem dayOf_all {len ph : Byte} {p : Option DayPattern} (h : dayOf len ph = some p) :
    p.all (fun d => 1 ≤ d.length ∧ d.length ≤ 64 ∧ d.phase < d.length) = true := by
  unfold dayOf at h
  split at h
  · cases h; rfl
  · obtain ⟨bounds, same⟩ := Option.ite_none_right_eq_some.mp h
    cases same
    exact decide_eq_true bounds

/-- A TRANSACT's fields have the count of arguments that the body's length gives. -/
theorem actionOf_ok {index initial a b c d e f g h : Byte} {action : List Byte} {act : Action}
    (fits : bodyFits .schWrite (index :: initial :: a :: b :: c :: d :: e :: f :: g :: h :: action) = true)
    (spelled : actionOf action = some act) : act.ok = true := by
  cases act with
  | notify note => rfl
  | transact t =>
    match action, spelled with
    | code :: rest, spelled =>
      unfold actionOf at spelled
      dsimp only at spelled
      split at spelled
      · split at spelled <;> cases spelled
      · split at spelled
        · rename_i transact
          subst transact
          obtain ⟨t', read, same⟩ := Option.map_eq_some_iff.mp spelled
          cases same
          match rest, read with
          | cls :: dest :: sub :: command :: retry :: count :: args, read =>
            simp only [bodyFits, Bool.and_eq_true, List.getElem?_cons_succ, List.getElem?_cons_zero, List.length_cons, beq_iff_eq,
              if_true] at fits
            exact txnSpecOf_ok read (by omega)
        · cases spelled

/-- A definition that is read from an SCH-WRITE body that fits is in range. -/
theorem entryDefOf_ok {index initial : Byte} {rest : List Byte} {d : EntryDef}
    (fits : bodyFits .schWrite (index :: initial :: rest) = true) (spelled : entryDefOf rest = some d) : d.ok = true := by
  match rest, spelled with
  | sec :: min :: hr :: len :: ph :: rep :: ov :: rpt :: action, spelled =>
    obtain ⟨⟨hs, hm, hh, hd⟩, -, -, -, ha⟩ := entryDefOf_eq_some_iff.mp spelled
    obtain ⟨-, -, second⟩ := inRange_eq_some_iff.mp hs
    exact d.ok_iff.mpr ⟨second, anyOr_all hm, anyOr_all hh, dayOf_all hd, actionOf_ok fits ha⟩

/-- A line configuration that is read is in range. -/
theorem lineConfigOf_ok {body : List Byte} {c : LineConfig} (spelled : lineConfigOf body = some c) : c.ok = true := by
  match body, spelled with
  | [a, b, d, e, f, g, h, i, j], spelled =>
    obtain ⟨stuck, backoff, holdoff, ⟨-, numbers⟩, stuckMs, backoffMs, holdoffMs⟩ := lineConfigOf_eq_some_iff.mp spelled
    simp only [inRange_eq_some_iff] at numbers
    exact decide_eq_true (by omega)

/-- The initial states an SCH-WRITE can give. -/
theorem initialOfByte_cases {b : Byte} {st : EntryState} (h : initialOfByte b = some st) : st = .armed ∨ st = .disabled := by
  unfold initialOfByte at h
  split_ifs at h <;> cases h
  · exact .inl rfl
  · exact .inr rfl

/-! ### What each request can do -/

section
variable (body : List Byte) (s : State)

theorem acts_answerGetStats : Acts s (answerGetStats body s).state := by
  have clear : Acts s (clearCounters s) :=
    (Act.clearCounters (s := s)).acts.trans (interface_link _ _).acts
  unfold answerGetStats
  split
  · split
    · rename_i flag _
      cases flag
      · exact .refl
      · exact clear
    · exact .refl
  · exact .refl

theorem acts_answerResetPart : Acts s (answerResetPart body s).state := by
  unfold answerResetPart
  repeat' split
  · exact (Act.start _ s.vdd s.backupKept).acts
  all_goals exact .refl

theorem acts_answerCalSet : Acts s (answerCalSet body s).state := by
  unfold answerCalSet
  repeat' split
  · exact .refl
  · exact .refl
  · rename_i time running
    exact (Act.calendar (.set _ _ _ _ _ (Bool.eq_false_iff.mpr running) (by omega) (by omega) (by omega))).acts
  · exact .refl

theorem acts_answerCalRun : Acts s (answerCalRun body s).state := by
  unfold answerCalRun
  repeat' split
  · exact .refl
  · rename_i stable
    exact (Act.calendar (.run stable)).acts
  all_goals exact .refl

theorem acts_answerCalStop : Acts s (answerCalStop body s).state := by
  unfold answerCalStop
  split
  · dsimp only [accept]
    split
    · exact (Act.calendar .stop).acts
    · exact .refl
  · exact .refl

theorem acts_answerCalClear : Acts s (answerCalClear body s).state := by
  unfold answerCalClear
  repeat' split
  · exact .refl
  · exact (Act.calendar .clear).acts
  · exact .refl

theorem acts_answerSchWrite (fits : bodyFits .schWrite body = true) : Acts s (answerSchWrite body s).state := by
  unfold answerSchWrite
  split
  · split
    · rename_i initial spelled
      dsimp only
      split
      · exact .refl
      · exact (Act.schWrite _ _ _ (entryDefOf_ok fits spelled) (initialOfByte_cases initial)).acts
    · exact .refl
  · exact .refl

theorem acts_answerSchEnable : Acts s (answerSchEnable body s).state := by
  unfold answerSchEnable
  repeat' split
  · rename_i state
    exact (Act.schState _ _ (by simp [state]) (by decide)).acts
  · rename_i state
    exact (Act.schState _ _ (by simp [state]) (by decide)).acts
  all_goals exact .refl

theorem acts_answerSchDisable : Acts s (answerSchDisable body s).state := by
  unfold answerSchDisable
  repeat' split
  · rename_i state
    exact (Act.schState _ _ (by simp [state]) (by decide)).acts
  · rename_i state
    exact (Act.schState _ _ (by simp [state]) (by decide)).acts
  all_goals exact .refl

theorem acts_answerSchDelete : Acts s (answerSchDelete body s).state := by
  unfold answerSchDelete
  repeat' split
  · exact .refl
  · exact (Act.schDelete _).acts
  all_goals exact .refl

theorem acts_answerStnDefine : Acts s (answerStnDefine body s).state := by
  unfold answerStnDefine
  repeat' split
  · rename_i subUnits _ _ _
    obtain ⟨-, -, most⟩ := inRange_eq_some_iff.mp subUnits
    exact (Act.stnDefine _ _ _ _ _ most).acts
  all_goals exact .refl

theorem acts_answerStnForget : Acts s (answerStnForget body s).state := by
  unfold answerStnForget
  repeat' split
  · exact .refl
  · exact .refl
  · rename_i number _ other
    obtain ⟨-, low, -⟩ := inRange_eq_some_iff.mp number
    exact (Act.stnForget _ low other).acts
  all_goals exact .refl

theorem acts_answerStnRestore : Acts s (answerStnRestore body s).state := by
  unfold answerStnRestore
  repeat' split
  · exact (Act.stnRestore _).acts
  all_goals exact .refl

theorem acts_answerBusSend (fits : bodyFits .busSend body = true) : Acts s (answerBusSend body s).state := by
  unfold answerBusSend
  repeat' split
  · exact .refl
  · exact .refl
  · exact .refl
  · rename_i spelled _ _ room
    exact (Act.send _ (txnSpecOf_busSend_ok fits spelled) (Bool.eq_false_iff.mpr room)).acts

theorem acts_answerBusCancel : Acts s (answerBusCancel body s).state := by
  unfold answerBusCancel
  dsimp only
  repeat' split
  · exact .refl
  · exact (Act.cancel _ _).acts
  · rename_i opened
    exact (Act.closeReferral _ .cancelled _ opened (by decide)).acts
  all_goals exact .refl

theorem acts_answerBusPause : Acts s (answerBusPause body s).state := by
  unfold answerBusPause
  repeat' split
  · rename_i idle
    exact (Act.pause idle).acts
  · rename_i active
    exact (Act.setPause true (.inl active)).acts
  · rename_i held
    exact (Act.setPause true (.inr held)).acts
  all_goals exact .refl

theorem acts_answerBusResume : Acts s (answerBusResume body s).state := by
  unfold answerBusResume
  repeat' split
  · exact .refl
  · rename_i active
    exact (Act.setPause false (.inl active)).acts
  · rename_i held
    exact (Act.setPause false (.inr held)).acts
  · rename_i paused
    exact (Act.resume (.inl paused)).acts
  · exact .refl
  · rename_i fault _
    exact (Act.raise _).acts.trans (Act.resume (s := raise _ s) (.inr fault)).acts
  · exact .refl

theorem acts_answerLineConfig : Acts s (answerLineConfig body s).state := by
  unfold answerLineConfig
  repeat' split
  · exact .refl
  · rename_i stopped _ _ spelled
    exact (Act.lineConfig _ (Bool.eq_false_iff.mpr stopped) (lineConfigOf_ok spelled)).acts
  · exact .refl

theorem acts_answerRefAnswer : Acts s (answerRefAnswer body s).state := by
  unfold answerRefAnswer
  repeat' split
  · exact .refl
  · rename_i opened _ _
    exact (Act.closeReferral _ .answeredAccept _ opened (by decide)).acts
  · rename_i opened _ _
    exact (Act.closeReferral _ .answeredReject _ opened (by decide)).acts
  all_goals exact .refl

theorem acts_answerNoteAck : Acts s (answerNoteAck body s).state := by
  unfold answerNoteAck
  repeat' split
  · rename_i found
    obtain ⟨held, -⟩ := List.findIdx?_eq_some_iff_getElem.mp found
    exact (Act.noteAck _ held).acts
  all_goals exact .refl

theorem acts_answerNoteFetch : Acts s (answerNoteFetch body s).state := by
  unfold answerNoteFetch
  repeat' split
  · exact .refl
  · rename_i count pull
    obtain ⟨-, -, most⟩ := inRange_eq_some_iff.mp count
    exact (Act.noteFetch _ most pull).acts
  all_goals exact .refl

theorem acts_answerNoteReplay : Acts s (answerNoteReplay body s).state := by
  unfold answerNoteReplay
  split
  · exact Act.noteReplay.acts
  · exact .refl

theorem acts_answerNoteConfig : Acts s (answerNoteConfig body s).state := by
  unfold answerNoteConfig
  split
  · split
    · exact (Act.noteConfig _ _).acts
    · exact .refl
  · exact .refl

/-- A request at its owning block is a chain of acts. -/
theorem acts_answerOwner (k : RequestKind) (fits : bodyFits k body = true) : Acts s (answerOwner k body s).state := by
  cases k
  case getInfo => simp only [answerOwner]; unfold answerGetInfo; split <;> exact .refl
  case getStatus => simp only [answerOwner]; unfold answerGetStatus; split <;> exact .refl
  case getStats => exact acts_answerGetStats body s
  case resetPart => exact acts_answerResetPart body s
  case calRead => simp only [answerOwner]; unfold answerCalRead; split <;> exact .refl
  case calSet => exact acts_answerCalSet body s
  case calRun => exact acts_answerCalRun body s
  case calStop => exact acts_answerCalStop body s
  case calClear => exact acts_answerCalClear body s
  case schWrite => exact acts_answerSchWrite body s fits
  case schRead => simp only [answerOwner]; unfold answerSchRead; repeat' split <;> first | exact .refl | skip
  case schEnable => exact acts_answerSchEnable body s
  case schDisable => exact acts_answerSchDisable body s
  case schDelete => exact acts_answerSchDelete body s
  case schList => simp only [answerOwner]; unfold answerSchList; split <;> exact .refl
  case stnDefine => exact acts_answerStnDefine body s
  case stnRead => simp only [answerOwner]; unfold answerStnRead; repeat' split <;> first | exact .refl | skip
  case stnForget => exact acts_answerStnForget body s
  case stnRestore => exact acts_answerStnRestore body s
  case busSend => exact acts_answerBusSend body s fits
  case busCancel => exact acts_answerBusCancel body s
  case busPause => exact acts_answerBusPause body s
  case busResume => exact acts_answerBusResume body s
  case lineConfig => exact acts_answerLineConfig body s
  case configRead => simp only [answerOwner]; unfold answerConfigRead; split <;> exact .refl
  case refAnswer => exact acts_answerRefAnswer body s
  case noteAck => exact acts_answerNoteAck body s
  case noteFetch => exact acts_answerNoteFetch body s
  case noteReplay => exact acts_answerNoteReplay body s
  case noteConfig => exact acts_answerNoteConfig body s

theorem acts_answerRequest (k : RequestKind) : Acts s (answerRequest k body s).state := by
  unfold answerRequest
  split
  · rename_i fits
    exact acts_answerOwner body s k fits
  · exact .refl

end

end Sys2Proof.Machine
end

section
/-! SUPPORT. What serving the link, an event, a command, an evaluation and a step can do, and the rule by which an invariant of the
acts is one of every step. -/

namespace Sys2Proof.Machine

/-! ### What serving the link can do -/

section
variable (s : State)

theorem acts_serveFrame (f : Frame) : Acts s (serveFrame f s) := by
  unfold serveFrame
  split
  · exact (acts_answerRequest _ s _).trans (acts_placeReply _ _)
  · exact acts_placeReply _ s

theorem acts_interpret (fuel : Nat) (s : State) : Acts s (interpret fuel s) := by
  induction fuel generalizing s with
  | zero => exact .refl
  | succ n ih =>
    unfold interpret
    repeat' split
    · exact (interface_link _ s).acts.trans ((acts_serveFrame _ _).trans (ih _))
    · exact .refl
    · exact .refl

theorem acts_transmit : Acts s (transmit s) := by
  unfold transmit
  repeat' split
  · exact (interface_link _ s).acts
  · exact (Act.noticeTaken (s := s)).acts.trans (interface_link _ _).acts
  · exact .refl
  · exact .refl

theorem acts_serveLink : Acts s (serveLink s) := by
  unfold serveLink
  split
  · exact (acts_interpret _ s).trans ((acts_transmit _).trans (acts_interpret _ _))
  · exact .refl

theorem acts_placeFrame (f : Frame) : Acts s (placeFrame f s) := by
  unfold placeFrame
  split <;> exact (interface_link _ s).acts

theorem acts_goodFrame (f : Frame) : Acts s (goodFrame f s) := by
  unfold goodFrame
  split
  · exact (acts_placeFrame s f).trans (acts_serveLink _)
  · exact .refl

theorem acts_receiveByte (b : Byte) : Acts s (receiveByte b s) := by
  unfold receiveByte
  repeat' split
  case h_1 => exact (interface_link _ s).acts.trans (acts_placeFrame (toHunt s) _)
  all_goals exact (interface_link _ s).acts

theorem acts_gapExpiry : Acts s (gapExpiry s) := by
  unfold gapExpiry
  split
  · exact (interface_link _ s).acts
  · exact .refl

end

/-! ### What an event can do -/

section
variable {s : State} {act : State → State}

theorem acts_mainEvent (h : s.vdd = true → Acts s (act s)) : Acts s (mainEvent act s) := by
  unfold mainEvent
  split
  · rename_i powered
    exact (h powered).trans (acts_serveLink _)
  · exact .refl

theorem acts_calEventStep (h : Acts s (act s)) : Acts s (calEventStep act s) := by
  unfold calEventStep
  repeat' split
  · exact h.trans (acts_serveLink _)
  · exact h
  · exact .refl

theorem acts_onExchange {act : Exchange → State → State} (h : ∀ x, s.engine.exchange = some x → Acts s (act x s)) :
    Acts s (onExchange act s) := by
  unfold onExchange
  split
  · rename_i current
    exact h _ current
  · exact .refl

end

section
variable (s : State)

theorem acts_tick : Acts s (tick s) := by
  have count : Acts s { s with cal := { s.cal.advance with divider := 0 } } := (Act.calendar .tick).acts
  have boundary : ∀ u b, Acts u { u with boundaries := b } := fun u b => Interface.acts (by constructor <;> rfl)
  unfold tick
  dsimp only
  repeat' split
  · exact count.trans ((Act.raise _).acts.trans (boundary _ _))
  · exact count.trans (boundary _ _)
  · exact count.trans (Act.raise _).acts
  · exact count
  · exact count

theorem acts_oscillatorEdge : Acts s (oscillatorEdge s) := by
  unfold oscillatorEdge
  dsimp only
  split
  · rename_i lost
    exact (Act.calendar (.firstEdge lost)).acts
  · rename_i starting
    exact (Act.calendar (.edge (by simp [starting]))).acts
  · rename_i stable
    have edge : Acts s (judgeEdge s) := (Act.calendar (.edge (by simp [stable]))).acts
    split
    · rename_i running
      unfold countPeriod
      split
      · exact edge.trans (acts_tick _)
      · rename_i below
        exact (Act.calendar (.countedEdge (by simp [stable]) running (Nat.not_le.mp below))).acts
    · exact edge

theorem acts_settle : Acts s (settle s) := by
  unfold settle
  split
  · rename_i starting
    exact (Act.calendar (.settle starting)).acts
  · exact .refl
  · exact .refl

theorem acts_loseOscillator : Acts s (loseOscillator s) := by
  unfold loseOscillator
  dsimp only
  split
  · exact (Act.calendar .lose).acts.trans (Act.raise _).acts
  · exact (Act.calendar .lose).acts

theorem acts_oscLoss : Acts s (oscLoss s) := by
  unfold oscLoss
  split
  · exact .refl
  · exact acts_loseOscillator s
  · exact acts_loseOscillator s

section
variable {s} {x : Exchange} (current : s.engine.exchange = some x)
include current

theorem acts_setReleased : Acts s (setExchange x.released s) := (Act.exchangeMoves x _ current .released).acts

theorem acts_endFailed (r : AttemptResult) (failed : ∀ a, r ≠ .reply a) : Acts s (endExchange x r s) :=
  (Act.exchangeEnds x x r current rfl fun a h => absurd h (failed a)).acts

theorem acts_lineStuckExpiry : Acts s (lineStuckExpiry x s) := by
  unfold lineStuckExpiry
  split
  · exact acts_endFailed current _ (by simp)
  · exact .refl

theorem acts_readyTimerExpiry : Acts s (readyTimerExpiry x s) := by
  unfold readyTimerExpiry
  repeat' split
  · exact acts_endFailed current _ (by simp)
  · exact acts_endFailed current _ (by simp)
  all_goals exact .refl

theorem acts_frameByteSent : Acts s (frameByteSent x s) := by
  unfold frameByteSent
  dsimp only
  split
  · rename_i h
    obtain ⟨send, ready⟩ := h
    repeat' split
    · rename_i more
      exact (Act.exchangeMoves x _ current (.byteSent send more)).acts
    · rename_i last reply
      exact (Act.exchangeMoves x _ current (.turn send ready last reply)).acts
    · exact (Act.exchangeEnds x _ .sent current rfl (by simp)).acts
  · exact .refl

theorem acts_turnHoldExpiry : Acts s (turnHoldExpiry x s) := by
  unfold turnHoldExpiry
  split
  · rename_i h
    split
    · exact (Act.exchangeMoves x _ current (.turnHeld h.1)).acts
    · exact acts_endFailed current _ (by simp)
  · exact .refl

theorem acts_replyWindowExpiry : Acts s (replyWindowExpiry x s) := by
  unfold replyWindowExpiry
  split
  · exact acts_endFailed current _ (by simp)
  · exact .refl

theorem acts_replyByteReceived (b : Byte) : Acts s (replyByteReceived b x s) := by
  unfold replyByteReceived
  split
  · rename_i h
    obtain ⟨receive, -⟩ := h
    split
    · exact acts_endFailed current _ (by simp)
    · rename_i head
      split
      · rename_i more
        exact (Act.exchangeMoves x _ current (.byteReceived b _ _ receive head more)).acts
      · exact (Act.exchangeEnds x x _ current rfl fun _ _ => receive).acts
  · exact .refl

end

theorem acts_nextAttempt (waits : s.engine.wait ≠ none) : Acts s (nextAttempt s) := by
  unfold nextAttempt
  split
  · rename_i current
    exact (Act.nextAttempt _ current waits).acts
  · exact .refl

theorem acts_lineRestExpiry : Acts s (lineRestExpiry s) := by
  unfold lineRestExpiry
  split
  · rename_i waits
    exact acts_nextAttempt s (by simp [waits])
  · exact .refl

theorem acts_busyBackoffExpiry : Acts s (busyBackoffExpiry s) := by
  unfold busyBackoffExpiry
  split
  · rename_i waits
    exact acts_nextAttempt s (by simp [waits])
  · exact .refl

theorem acts_holdTimerExpiry : Acts s (holdTimerExpiry s) := by
  unfold holdTimerExpiry
  split
  · rename_i opened
    exact (Act.countHoldTimeout (s := s)).acts.trans
      (Act.closeReferral (s := countHoldTimeout s) _ .timeout _ opened (by decide)).acts
  · exact .refl

end

/-! ### What a command can do -/

/-- The outcome, where it is a state, is reached from s by a chain of acts. -/
def Leads (s : State) (r : Result) : Prop := ∀ t, r = .next t → Acts s t

theorem Acts.leads {s t : State} (h : Acts s t) : Leads s (.next t) := by
  intro u same
  cases same
  exact h

section
variable (s : State)

/-- An event of the main side that finds LRDY at a level. -/
theorem leads_lineEvent {act : State → State} (held : Bool) (h : ∀ u, Acts u (act u)) :
    Leads s (.next (mainEvent act (withLrdy held s))) :=
  Acts.leads ((acts_withLrdy held s).trans (acts_mainEvent fun _ => h _))

/-- An event of the exchange in progress that finds LRDY at a level. -/
theorem leads_exchangeEvent {act : Exchange → State → State} (held : Bool)
    (h : ∀ u x, u.engine.exchange = some x → Acts u (act x u)) :
    Leads s (.next (mainEvent (onExchange act) (withLrdy held s))) :=
  leads_lineEvent s held fun u => acts_onExchange (h u)

theorem leads_hostRequest (k : RequestKind) (tag : Byte) (body : List Byte) : Leads s (.next (hostRequest k tag body s)) :=
  (acts_goodFrame s _).leads

theorem leads_withLrdy (k : RequestKind) (tag : Byte) (body : List Byte) (held : Bool) :
    Leads s (.next (hostRequest k tag body (withLrdy held s))) :=
  Acts.leads ((acts_withLrdy held s).trans (acts_goodFrame _ _))

theorem leads_resetPart (tag : Byte) (body : List Byte) (pins : Pins) : Leads s (execResetPart tag body pins s) :=
  Acts.leads ((acts_withPins pins s).trans (acts_goodFrame _ _))

theorem leads_hrdyAsserted (pins : Pins) : Leads s (execHrdyAsserted pins s) :=
  Acts.leads ((Interface.acts (t := { withPins pins s with hrdy := true }) (by constructor <;> rfl)).trans (acts_serveLink _))

theorem leads_hrdyDeasserted : Leads s (execHrdyDeasserted s) :=
  (Interface.acts (t := { s with hrdy := false }) (by constructor <;> rfl)).leads

theorem leads_transmitFrameEnd (pins : Pins) : Leads s (execTransmitFrameEnd pins s) := by
  refine Acts.leads ((acts_withPins pins s).trans ?_)
  split
  · exact acts_mainEvent fun _ => (interface_link _ _).acts
  · exact .refl

theorem leads_hostByteReceived (b : Byte) (pins : Pins) : Leads s (execHostByteReceived b pins s) := by
  refine Acts.leads ((acts_withPins pins s).trans ?_)
  split
  · exact (acts_receiveByte _ b).trans (acts_serveLink _)
  · exact .refl

theorem leads_gapTimerExpiry : Leads s (execGapTimerExpiry s) := by
  refine Acts.leads ?_
  split
  · exact (acts_gapExpiry s).trans (acts_serveLink _)
  · exact .refl

theorem leads_powerUp (pins : Pins) : Leads s (execPowerUp pins s) := by
  refine Acts.leads ((acts_withPins pins s).trans ?_)
  split
  · exact .refl
  · exact (Act.start _ true true).acts.trans (acts_serveLink _)

theorem leads_powerLoss : Leads s (execPowerLoss s) := by
  refine Acts.leads ?_
  split
  · exact Act.powerLoss.acts
  · exact .refl

theorem leads_backupLoss : Leads s (execBackupLoss s) := by
  refine Acts.leads ?_
  split
  · exact .refl
  · exact Act.backupLoss.acts

theorem leads_rstnAsserted : Leads s (execRstnAsserted s) :=
  (Interface.acts (t := { endFrame s with rstnAsserted := true }) (by constructor <;> rfl)).leads

theorem leads_pinStart (pins : Pins) : Leads s (execPinStart pins s) := by
  have released : Acts s { withPins pins s with rstnAsserted := false } := Interface.acts (by constructor <;> rfl)
  refine Acts.leads (released.trans ?_)
  split
  · exact (Act.start .pin s.vdd s.backupKept).acts.trans (acts_serveLink _)
  · exact .refl

theorem leads_execTick : Leads s (execTick s) := by
  refine (acts_calEventStep ?_).leads
  split
  · exact acts_tick s
  · exact .refl

theorem leads_lrdyReleased : Leads s (execLrdyReleased s) :=
  leads_exchangeEvent s false fun _ _ current => acts_setReleased current

theorem leads_lineStuckExpiry : Leads s (execLineStuckExpiry s) :=
  (acts_mainEvent fun _ => acts_onExchange fun _ current => acts_lineStuckExpiry current).leads

/-- With VDD absent LATN changes its level alone; with VDD the Poll Unit acts on the change. -/
theorem leads_latn {act : State → State} (held : Bool) (h : Acts s (act { s with latnHeld := held })) :
    Leads s (.next (mainEvent act { s with latnHeld := held })) := by
  refine Acts.leads ?_
  unfold mainEvent
  split
  · exact h.trans (acts_serveLink _)
  · rename_i off
    exact (Act.latnUnpowered (s := s) held (Bool.eq_false_iff.mpr off)).acts

theorem leads_latnHeld : Leads s (execLatnHeld s) := leads_latn s true Act.latnHeld.acts

theorem leads_latnReleased : Leads s (execLatnReleased s) := leads_latn s false Act.latnReleased.acts

theorem leads_pollHoldoffExpiry : Leads s (execPollHoldoffExpiry s) :=
  (acts_mainEvent fun _ => Act.holdoffExpiry.acts).leads

theorem leads_pollRequestPresented (held : Bool) : Leads s (execPollRequestPresented held s) :=
  leads_lineEvent s held fun _ => Act.presented.acts

theorem leads_completionReport : Leads s (execCompletionReport s) := (acts_mainEvent fun _ => Act.report.acts).leads

theorem acts_cancelDecided (tag : Byte) (body : List Byte) : Acts s (cancelDecided tag body s) := by
  unfold cancelDecided
  dsimp only
  split
  · exact (acts_goodFrame s _).trans (acts_mainEvent fun _ => Act.takeDecided.acts)
  · exact acts_goodFrame s _

/-- An event between two claims is a chain of acts. -/
theorem leads_execBetween (e : BetweenEvent) : Leads s (execBetween e s) := by
  cases e
  case take held => exact leads_lineEvent s held fun _ => Act.decide.acts
  case cancelDecided tag body held => exact Acts.leads ((acts_withLrdy held s).trans (acts_cancelDecided _ tag body))
  case request k tag body pins => exact Acts.leads ((acts_requestLevels k pins s).trans (acts_goodFrame _ _))
  case unknownKind kind tag body => exact (acts_goodFrame s _).leads
  case hrdyAsserted pins => exact leads_hrdyAsserted s pins
  case hrdyDeasserted => exact leads_hrdyDeasserted s
  case transmitFrameEnd pins => exact leads_transmitFrameEnd s pins
  case oscillatorEdge => exact (acts_calEventStep (acts_oscillatorEdge s)).leads
  case settleTimerExpiry => exact (acts_calEventStep (acts_settle s)).leads
  case oscLoss => exact (acts_calEventStep (acts_oscLoss s)).leads
  case tick => exact leads_execTick s
  case lrdyReleased => exact leads_lrdyReleased s
  case lineStuckExpiry => exact leads_lineStuckExpiry s
  case readyTimerExpiry held => exact leads_exchangeEvent s held fun _ _ current => acts_readyTimerExpiry current
  case frameByteSent held => exact leads_exchangeEvent s held fun _ _ current => acts_frameByteSent current
  case turnHoldExpiry held => exact leads_exchangeEvent s held fun _ _ current => acts_turnHoldExpiry current
  case replyWindowExpiry held => exact leads_exchangeEvent s held fun _ _ current => acts_replyWindowExpiry current
  case replyByteReceived b held => exact leads_exchangeEvent s held fun _ _ current => acts_replyByteReceived current b
  case lineRestExpiry held => exact leads_lineEvent s held acts_lineRestExpiry
  case busyBackoffExpiry held => exact leads_lineEvent s held acts_busyBackoffExpiry
  case holdTimerExpiry held => exact leads_lineEvent s held acts_holdTimerExpiry
  case latnHeld => exact leads_latnHeld s
  case latnReleased => exact leads_latnReleased s
  case pollHoldoffExpiry => exact leads_pollHoldoffExpiry s
  case pollRequestPresented held => exact leads_pollRequestPresented s held

/-! ### What an evaluation can do -/

theorem acts_afterBetween (e : BetweenEvent) : Acts s (afterBetween e s) := by
  obtain same | ⟨taken, -⟩ := afterBetween_cases e s
  · rw [same]
  · exact leads_execBetween s e _ taken

theorem acts_takeBetween (between : List Between) (i : Nat) (s : State) : Acts s (takeBetween between i s) := by
  induction between generalizing s with
  | nil => exact .refl
  | cons b rest ih =>
    rw [takeBetween_cons]
    split
    · exact (acts_afterBetween s b.event).trans (ih _)
    · exact ih s

theorem scanActs_scanEntries (ev : SecondBoundary) (between : List Between) (l : List Nat) (s : State) :
    ScanActs s (scanEntries ev between l s) := by
  induction l generalizing s with
  | nil => exact .refl
  | cons i later ih =>
    unfold scanEntries
    have fired : ScanActs s (if (s.entryAt i).fires ev then fireEntry ev i s else s) := by
      split
      · rename_i fires
        unfold Entry.fires at fires
        simp only [Bool.and_eq_true, beq_iff_eq] at fires
        exact .single (.fire ev i fires.1)
      · exact .refl
    exact fired.trans ((acts_takeBetween between i _).scanActs.trans (ih _))

end

/-! ### What a step can do -/

/-- A step is a chain of acts; or it is an evaluation, whose scan the grant decision follows. -/
def StepChain (s t : State) : Prop := Acts s t ∨ ∃ u, ScanActs s u ∧ Acts (decideGrant u) t

theorem Leads.chain {s t : State} {r : Result} (h : Leads s r) (next : r = .next t) : StepChain s t := .inl (h t next)

theorem scheduleEvaluation_chain {held : Bool} {between : List Between} {s t : State}
    (next : execScheduleEvaluation held between s = .next t) : StepChain s t := by
  cases next
  have level : Acts s (withLrdy held s) := acts_withLrdy held s
  unfold mainEvent evaluateNext
  split
  · split
    · rename_i rest waiting
      have taken : Acts (withLrdy held s) { withLrdy held s with boundaries := rest } :=
        Interface.acts (by constructor <;> rfl)
      exact .inr ⟨_, (Acts.scanActs (level.trans taken)).trans (scanActs_scanEntries _ between _ _), acts_serveLink _⟩
    · exact .inl (level.trans (acts_serveLink _))
  · exact .inl level

/-- Every command is a chain of acts, or an evaluation. -/
theorem exec_chain {c : Instr} {s t : State} (next : exec c s = .next t) : StepChain s t := by
  cases c
  case resetPart tag body pins => exact (leads_resetPart s tag body pins).chain next
  case busSend tag body held => exact (leads_withLrdy s .busSend tag body held).chain next
  case busCancel tag body held => exact (leads_withLrdy s .busCancel tag body held).chain next
  case busResume tag body held => exact (leads_withLrdy s .busResume tag body held).chain next
  case refAnswer tag body held => exact (leads_withLrdy s .refAnswer tag body held).chain next
  case unknownKind kind tag body => exact (leads_execBetween s (.unknownKind kind tag body)).chain next
  case hostByteReceived b pins => exact (leads_hostByteReceived s b pins).chain next
  case gapTimerExpiry => exact (leads_gapTimerExpiry s).chain next
  case hrdyAsserted pins => exact (leads_hrdyAsserted s pins).chain next
  case hrdyDeasserted => exact (leads_hrdyDeasserted s).chain next
  case transmitFrameEnd pins => exact (leads_transmitFrameEnd s pins).chain next
  case powerUp pins => exact (leads_powerUp s pins).chain next
  case powerLoss => exact (leads_powerLoss s).chain next
  case backupLoss => exact (leads_backupLoss s).chain next
  case rstnAsserted => exact (leads_rstnAsserted s).chain next
  case pinStart pins => exact (leads_pinStart s pins).chain next
  case oscillatorEdge => exact (leads_execBetween s .oscillatorEdge).chain next
  case settleTimerExpiry => exact (leads_execBetween s .settleTimerExpiry).chain next
  case oscLoss => exact (leads_execBetween s .oscLoss).chain next
  case tick => exact (leads_execBetween s .tick).chain next
  case scheduleEvaluation held between => exact scheduleEvaluation_chain next
  case completionReport => exact (leads_completionReport s).chain next
  case lrdyReleased => exact (leads_lrdyReleased s).chain next
  case lineStuckExpiry => exact (leads_lineStuckExpiry s).chain next
  case readyTimerExpiry held => exact (leads_execBetween s (.readyTimerExpiry held)).chain next
  case frameByteSent held => exact (leads_execBetween s (.frameByteSent held)).chain next
  case turnHoldExpiry held => exact (leads_execBetween s (.turnHoldExpiry held)).chain next
  case replyWindowExpiry held => exact (leads_execBetween s (.replyWindowExpiry held)).chain next
  case replyByteReceived b held => exact (leads_execBetween s (.replyByteReceived b held)).chain next
  case lineRestExpiry held => exact (leads_execBetween s (.lineRestExpiry held)).chain next
  case busyBackoffExpiry held => exact (leads_execBetween s (.busyBackoffExpiry held)).chain next
  case holdTimerExpiry held => exact (leads_execBetween s (.holdTimerExpiry held)).chain next
  case latnHeld => exact (leads_latnHeld s).chain next
  case latnReleased => exact (leads_latnReleased s).chain next
  case pollHoldoffExpiry => exact (leads_pollHoldoffExpiry s).chain next
  case pollRequestPresented held => exact (leads_pollRequestPresented s held).chain next
  all_goals exact (leads_hostRequest s _ _ _).chain next

/-- The front command leaves the queue, and what follows is a chain of acts or an evaluation. -/
theorem step_chain {s t : State} (next : step s = .next t) : StepChain s t := by
  unfold step at next
  split at next
  · rename_i c rest _
    have taken : Acts s { s with pending := rest } := Interface.acts (by constructor <;> rfl)
    obtain acts | ⟨u, scan, acts⟩ := exec_chain next
    · exact .inl (taken.trans acts)
    · exact .inr ⟨u, taken.scanActs.trans scan, acts⟩
  · cases next
    exact .inl .refl

/-- What every act keeps, every chain of acts keeps. -/
theorem Acts.keep {P : State → Prop} (keeps : ∀ s t, Act s t → P s → P t) {s t : State} (chain : Acts s t) (h : P s) : P t := by
  induction chain with
  | refl => exact h
  | tail _ last ih => exact keeps _ _ last ih

/-- An invariant of all acts and firings is one of every step; where the scan of an evaluation keeps only a weaker one, the grant
decision that ends it must bring the invariant back. -/
theorem step_keeps {P Q : State → Prop} (keepsP : ∀ s t, Act s t → P s → P t) (keepsQ : ∀ s t, ScanAct s t → Q s → Q t)
    (weaken : ∀ s, P s → Q s) (decided : ∀ s, Q s → P (decideGrant s)) {s t : State} (h : P s) (next : step s = .next t) :
    P t := by
  obtain acts | ⟨u, scan, acts⟩ := step_chain next
  · exact acts.keep keepsP h
  · have scanned : Q u := by
      clear acts
      induction scan with
      | refl => exact weaken s h
      | tail _ last ih => exact keepsQ _ _ last ih
    exact acts.keep keepsP (decided u scanned)

/-- An invariant of all acts and of firings is one of every step. -/
theorem step_keeps_of_acts {P : State → Prop} (keeps : ∀ s t, Act s t → P s → P t)
    (fire : ∀ ev i s, P s → P (fireEntry ev i s)) {s t : State} (h : P s) (next : step s = .next t) : P t := by
  refine step_keeps keeps ?_ (fun _ => id) (fun u => keeps u _ .decide) h next
  rintro u v (act | ⟨ev, i, -⟩) hu
  · exact keeps u v act hu
  · exact fire ev i u hu

end Sys2Proof.Machine
end

section
/-! SUPPORT. The calendar record: what the advance by one tick does to the counters, and that every step keeps the record in range
with its flags and timers as the oscillator monitor's state asks. -/

namespace Sys2Proof.Machine

/-! ### The ranges and flags of the record (R115 to R120) -/

/-- The counters are in their ranges (R115). -/
def Calendar.inRanges (c : Calendar) : Prop :=
  c.fraction ≤ 255 ∧ c.second ≤ 59 ∧ c.minute ≤ 59 ∧ c.hour ≤ 23 ∧ c.day ≤ 65535

theorem beq_beq_eq_true_iff {α : Type} [BEq α] [LawfulBEq α] (a : Bool) (x y : α) :
    (a == (x == y)) = true ↔ (a = true ↔ x = y) := by
  cases a <;> simp

theorem beq_bne_eq_true_iff {α : Type} [BEq α] [LawfulBEq α] (a : Bool) (x y : α) :
    (a == (x != y)) = true ↔ (a = true ↔ x ≠ y) := by
  cases a <;> simp

/-- The record's invariant, part by part. -/
theorem Calendar.ok_iff (c : Calendar) : c.ok = true ↔
    c.inRanges ∧ c.divider ≤ 127 ∧ (c.running = true → c.oscStable = true) ∧ (c.oscStable = true ↔ c.monitor = .stable) ∧
    (c.settleTimer.isSome = true ↔ c.monitor = .starting) ∧ (c.monitorTimer.isSome = true ↔ c.monitor ≠ .lost) ∧
    (c.running = false → c.divider = 0) := by
  unfold Calendar.ok Calendar.inRanges
  simp only [Bool.and_eq_true, decide_eq_true_eq, Bool.or_eq_true, Bool.not_eq_true', beq_beq_eq_true_iff,
    beq_bne_eq_true_iff]
  cases c.running <;> simp [and_assoc]

/-! ### The advance by one tick (R117, R118, R119) -/

/-- The advance changes the counters alone. -/
theorem advance_flags (c : Calendar) :
    c.advance.running = c.running ∧ c.advance.timeValid = c.timeValid ∧ c.advance.oscStable = c.oscStable ∧
    c.advance.monitor = c.monitor ∧ c.advance.settleTimer = c.settleTimer ∧ c.advance.monitorTimer = c.monitorTimer := by
  unfold Calendar.advance Calendar.advanceSecond Calendar.advanceMinute Calendar.advanceHour
  split_ifs <;> simp only [and_self]

/-- The advance keeps the counters in range. -/
theorem advance_inRanges {c : Calendar} (h : c.inRanges) : c.advance.inRanges := by
  unfold Calendar.inRanges at h
  unfold Calendar.advance Calendar.advanceSecond Calendar.advanceMinute Calendar.advanceHour nextDay Calendar.inRanges
  split_ifs <;> dsimp only at * <;> omega

/-- The counters down to the hour as one number. -/
def Calendar.hours (c : Calendar) : Nat := c.day * 24 + c.hour

/-- The counters down to the minute as one number. -/
def Calendar.minutes (c : Calendar) : Nat := c.hours * 60 + c.minute

/-- The counters down to the second as one number. -/
def Calendar.seconds (c : Calendar) : Nat := c.minutes * 60 + c.second

theorem ticks_eq (c : Calendar) : c.ticks = c.seconds * 256 + c.fraction := rfl

theorem advanceHour_minute (c : Calendar) : c.advanceHour.minute = c.minute := by
  unfold Calendar.advanceHour
  split <;> rfl

theorem advanceMinute_second (c : Calendar) : c.advanceMinute.second = c.second := by
  unfold Calendar.advanceMinute Calendar.advanceHour
  split_ifs <;> rfl

theorem advanceSecond_fraction (c : Calendar) : c.advanceSecond.fraction = c.fraction := by
  unfold Calendar.advanceSecond Calendar.advanceMinute Calendar.advanceHour
  split_ifs <;> rfl

theorem advanceHour_hours {c : Calendar} (h : c.inRanges) : c.advanceHour.hours = (c.hours + 1) % (65536 * 24) := by
  obtain ⟨-, -, -, hour, day⟩ := h
  unfold Calendar.advanceHour nextDay Calendar.hours
  split_ifs <;> dsimp only <;> omega

theorem advanceMinute_minutes {c : Calendar} (h : c.inRanges) :
    c.advanceMinute.minutes = (c.minutes + 1) % (65536 * 24 * 60) := by
  have hours : c.hours < 65536 * 24 := by
    obtain ⟨-, -, -, hour, day⟩ := h
    unfold Calendar.hours
    omega
  have next := advanceHour_hours (c := { c with minute := 0 }) ⟨h.1, h.2.1, Nat.zero_le _, h.2.2.2⟩
  have same : ({ c with minute := 0 } : Calendar).hours = c.hours := rfl
  obtain ⟨-, -, minute, -, -⟩ := h
  unfold Calendar.advanceMinute
  split
  · show c.hours * 60 + (c.minute + 1) = (c.hours * 60 + c.minute + 1) % (65536 * 24 * 60)
    omega
  · unfold Calendar.minutes
    rw [next, same, advanceHour_minute]
    dsimp only
    omega

theorem advanceSecond_seconds {c : Calendar} (h : c.inRanges) :
    c.advanceSecond.seconds = (c.seconds + 1) % (65536 * 24 * 60 * 60) := by
  have minutes : c.minutes < 65536 * 24 * 60 := by
    obtain ⟨-, -, minute, hour, day⟩ := h
    unfold Calendar.minutes Calendar.hours
    omega
  have next := advanceMinute_minutes (c := { c with second := 0 }) ⟨h.1, Nat.zero_le _, h.2.2⟩
  have same : ({ c with second := 0 } : Calendar).minutes = c.minutes := rfl
  obtain ⟨-, second, -, -, -⟩ := h
  unfold Calendar.advanceSecond
  split
  · show c.minutes * 60 + (c.second + 1) = (c.minutes * 60 + c.second + 1) % (65536 * 24 * 60 * 60)
    omega
  · unfold Calendar.seconds
    rw [next, same, advanceMinute_second]
    dsimp only
    omega

/-- The advance is one tick more, modulo the whole range of days. -/
theorem advance_ticks {c : Calendar} (h : c.inRanges) : c.advance.ticks = (c.ticks + 1) % (65536 * 86400 * 256) := by
  have seconds : c.seconds < 65536 * 24 * 60 * 60 := by
    obtain ⟨-, second, minute, hour, day⟩ := h
    unfold Calendar.seconds Calendar.minutes Calendar.hours
    omega
  have next := advanceSecond_seconds (c := { c with fraction := 0 }) ⟨Nat.zero_le _, h.2⟩
  have same : ({ c with fraction := 0 } : Calendar).seconds = c.seconds := rfl
  obtain ⟨fraction, -, -, -, -⟩ := h
  unfold Calendar.advance
  split
  · show c.seconds * 256 + (c.fraction + 1) = (c.seconds * 256 + c.fraction + 1) % (65536 * 86400 * 256)
    omega
  · rw [ticks_eq, ticks_eq, next, same, advanceSecond_fraction]
    dsimp only
    omega

/-- A tick leaves a record that is in order. -/
theorem ok_of_tick {c : Calendar} (ok : c.ok = true) : ({ c.advance with divider := 0 } : Calendar).ok = true := by
  obtain ⟨ranges, -, running, stable, settle, monitor, -⟩ := c.ok_iff.mp ok
  obtain ⟨run, -, osc, mon, set, tim⟩ := advance_flags c
  have advanced : ({ c.advance with divider := 0 } : Calendar).inRanges := advance_inRanges ranges
  refine (Calendar.ok_iff _).mpr ⟨advanced, Nat.zero_le _, ?_⟩
  simp only [run, osc, mon, set, tim]
  exact ⟨running, stable, settle, monitor, fun _ => trivial⟩

/-! ### Every step keeps the record in order -/

theorem word16_le (hi lo : Byte) : word16 hi lo ≤ 65535 := by
  unfold word16
  have h := hi.isLt
  have l := lo.isLt
  omega

/-- What a request or an event does to the record keeps it in order. -/
theorem CalendarStep.ok {c d : Calendar} (h : CalendarStep c d) (ok : c.ok = true) : d.ok = true := by
  obtain ⟨ranges, divider, running, stable, settle, monitor, stopped⟩ := c.ok_iff.mp ok
  unfold Calendar.inRanges at ranges
  cases h
  case tick => exact ok_of_tick ok
  case set hi lo h m x stop hour minute second =>
    have day := word16_le hi lo
    exact (Calendar.ok_iff _).mpr ⟨by simp only [Calendar.inRanges]; omega, divider, running, stable, settle, monitor, stopped⟩
  case run osc =>
    exact (Calendar.ok_iff _).mpr ⟨ranges, Nat.zero_le _, fun _ => osc, stable, settle, monitor, fun _ => rfl⟩
  case stop =>
    exact (Calendar.ok_iff _).mpr ⟨ranges, Nat.zero_le _, by simp, stable, settle, monitor, fun _ => rfl⟩
  case clear =>
    exact (Calendar.ok_iff _).mpr ⟨by simp [Calendar.inRanges], divider, running, stable, settle, monitor, stopped⟩
  case firstEdge lost =>
    have unstable : ¬ c.oscStable = true := by simp [stable, lost]
    exact (Calendar.ok_iff _).mpr ⟨ranges, divider, running, by simp [unstable], by simp, by simp, stopped⟩
  case edge present =>
    exact (Calendar.ok_iff _).mpr ⟨ranges, divider, running, stable, settle, by simp [present], stopped⟩
  case countedEdge present run below =>
    exact (Calendar.ok_iff _).mpr ⟨ranges, below, running, stable, settle, by simp [present], by simp [run]⟩
  case settle starting =>
    have timer : c.monitorTimer.isSome = true := monitor.mpr (by simp [starting])
    exact (Calendar.ok_iff _).mpr ⟨ranges, divider, fun _ => rfl, by simp, by simp, by simp [timer], stopped⟩
  case lose =>
    exact (Calendar.ok_iff _).mpr ⟨ranges, Nat.zero_le _, by simp [Calendar.lose], by simp [Calendar.lose],
      by simp [Calendar.lose], by simp [Calendar.lose], fun _ => rfl⟩

/-- A start leaves the record, or at COLD its initial values. -/
theorem start_cal (k : StartKind) (s : State) : (start k s).cal = s.cal.started k := (lineSide_start k s).cal

theorem started_cal_ok (k : StartKind) {c : Calendar} (ok : c.ok = true) : (c.started k).ok = true := by
  cases k
  case cold => rfl
  all_goals exact ok

theorem takeNextReport_cal (s : State) : (takeNextReport s).cal = s.cal := by
  unfold takeNextReport
  split
  · exact (lineSide_takeReport _ _).cal
  · rfl

theorem lineSide_latnReleased (s : State) : LineSide s (latnReleased s) := by
  unfold latnReleased
  split
  · exact .trans (by constructor <;> rfl) (lineSide_pollTest _)
  · exact .refl s

theorem lineSide_pollHoldoffExpiry (s : State) : LineSide s (pollHoldoffExpiry s) := by
  unfold pollHoldoffExpiry
  split
  · exact (lineSide_pollSet s _).trans (lineSide_pollTest _)
  · exact .refl s

theorem lineSide_requestPresented (s : State) : LineSide s (requestPresented s) := by
  unfold requestPresented
  split
  · exact (lineSide_pollSet s _).trans (lineSide_decideGrant _)
  · exact .refl s

theorem lineSide_removeThrough (i : Nat) (s : State) : LineSide s (removeThrough i s) := by constructor <;> rfl

theorem lineSide_reportLost (s : State) : LineSide s (reportLost s) := by
  unfold reportLost
  split <;> constructor <;> rfl

/-- Every act leaves the record in order. -/
theorem Act.cal_ok {s t : State} (act : Act s t) (ok : s.cal.ok = true) : t.cal.ok = true := by
  cases act
  case interface h => rw [h.cal]; exact ok
  case start k v b => rw [start_cal]; exact started_cal_ok k ok
  case backupLoss => rfl
  case calendar h => exact h.ok ok
  case noteAck i _ => rw [(lineSide_reportLost _).cal]; exact ok
  case report => rw [takeNextReport_cal]; exact ok
  case stnDefine => rw [(lineSide_stationWrite _ _ _ _ s).cal]; exact ok
  case stnForget => rw [(lineSide_stationWrite _ _ _ _ s).cal]; exact ok
  case stnRestore => rw [(lineSide_stationWrite _ _ _ _ s).cal]; exact ok
  case send => rw [(lineSide_decideGrant _).cal]; exact ok
  case cancel => rw [(lineSide_handCompletion _ _).cal]; exact ok
  case pause => rw [(lineSide_enterPaused s).cal]; exact ok
  case resume => rw [(lineSide_resumeIdle s).cal]; exact ok
  case closeReferral => rw [(lineSide_closeReferral _ _ _ s).cal]; exact ok
  case exchangeEnds => rw [(lineSide_endExchange _ _ s).cal]; exact ok
  case latnHeld => rw [(lineSide_pollTest _).cal]; exact ok
  case latnReleased => rw [(lineSide_latnReleased _).cal]; exact ok
  case holdoffExpiry => rw [(lineSide_pollHoldoffExpiry s).cal]; exact ok
  case presented => rw [(lineSide_requestPresented s).cal]; exact ok
  case decide => rw [(lineSide_decideGrant s).cal]; exact ok
  case takeDecided => rw [(lineSide_takeDecided s).cal]; exact ok
  all_goals exact ok

/-- Settles O7: the requests and events of the calendar keep the record in order, and every other act leaves it. -/
theorem calendarStaysInRange : Obligations.CalendarStaysInRange := by
  intro s t ok next
  refine step_keeps_of_acts (P := fun u => u.cal.ok = true) (fun _ _ act => act.cal_ok) ?_ ok next
  intro ev i u h
  rw [(lineSide_fireEntry ev i u).cal]
  exact h

end Sys2Proof.Machine
end

section
/-! SUPPORT. The Notice Unit in a step: what the other blocks do to it is to raise notices; a raised notice, a taken one, an
acknowledgement and a start each keep the unit's record in order. -/

namespace Sys2Proof.Machine

/-! ### Notices raised (R153, R154) -/

/-- Notices raised one after another, each with its timestamp. -/
def NoticeUnit.raiseAll (l : List (Option Timestamp × NoticeBody)) (u : NoticeUnit) : NoticeUnit :=
  l.foldl (fun v n => v.raise n.1 n.2) u

/-- From s to t the Notice Unit has at most had notices raised. -/
def Raised (s t : State) : Prop := ∃ l, t.notices = s.notices.raiseAll l

theorem Raised.of_eq {s t : State} (h : t.notices = s.notices) : Raised s t := ⟨[], h⟩

theorem Raised.refl (s : State) : Raised s s := .of_eq rfl

theorem Raised.trans {s t u : State} (h : Raised s t) (k : Raised t u) : Raised s u := by
  obtain ⟨l, first⟩ := h
  obtain ⟨m, second⟩ := k
  exact ⟨l ++ m, by rw [second, first]; exact List.foldl_append.symm⟩

theorem raised_raise (b : NoticeBody) (s : State) : Raised s (raise b s) := ⟨[(s.cal.stamp, b)], rfl⟩

/-- The engine as the other blocks' acts leave it: a phantom cycle may have been counted (R107), no more. -/
def LineEngine.SameBut (e f : LineEngine) : Prop :=
  ∃ n, f = { e with counters := { e.counters with phantomCycles := n } } ∧ (e.counters.phantomCycles ≤ 65535 → n ≤ 65535)

theorem LineEngine.SameBut.refl (e : LineEngine) : e.SameBut e := ⟨_, rfl, id⟩

theorem LineEngine.SameBut.trans {e f g : LineEngine} (h : e.SameBut f) (k : f.SameBut g) : e.SameBut g := by
  obtain ⟨n, rfl, small⟩ := h
  obtain ⟨m, rfl, smaller⟩ := k
  exact ⟨m, rfl, fun le => smaller (small le)⟩

/-- From s to t the blocks beside the engine acted: notices were raised, the queue stands, and the engine at most counted a
phantom cycle. -/
structure Told (s t : State) : Prop where
  raised : Raised s t
  queue : t.queue = s.queue
  engine : s.engine.SameBut t.engine

namespace Told

theorem refl (s : State) : Told s s := ⟨.refl s, rfl, .refl _⟩

theorem trans {s t u : State} (h : Told s t) (k : Told t u) : Told s u :=
  ⟨h.raised.trans k.raised, k.queue.trans h.queue, h.engine.trans k.engine⟩

/-- A change outside the Notice Unit, the queue and the engine. -/
theorem of_eq {s t : State} (notices : t.notices = s.notices) (queue : t.queue = s.queue) (engine : t.engine = s.engine) :
    Told s t := ⟨.of_eq notices, queue, engine ▸ .refl _⟩

end Told

theorem told_raise (b : NoticeBody) (s : State) : Told s (raise b s) := ⟨raised_raise b s, rfl, .refl _⟩

theorem told_pollSet (s : State) (p : PollUnit) : Told s { s with poll := p } := .of_eq rfl rfl rfl

theorem told_setStation (n : Nat) (r : Station) (s : State) : Told s (setStation n r s) := .of_eq rfl rfl rfl

theorem told_setReports (s : State) (l : List Completion) : Told s { s with reports := l } := .of_eq rfl rfl rfl

/-! ### What the Poll Unit, the Station Table and the Schedule Unit do -/

theorem bump_le (n : Nat) : bump n ≤ 65535 := by
  unfold bump sat
  split <;> omega

theorem told_pollCompleteEnd (seen : Bool) (s : State) : Told s (pollCompleteEnd seen s) := by
  have counted : ∀ p : PollUnit, Told s { s with
      poll := p
      engine := { s.engine with
        counters := { s.engine.counters with phantomCycles := bump s.engine.counters.phantomCycles } } } :=
    fun _ => ⟨.of_eq rfl, rfl, _, rfl, fun _ => bump_le _⟩
  unfold pollCompleteEnd
  dsimp only
  repeat' split
  · exact .of_eq rfl rfl rfl
  · exact (counted _).trans (told_raise _ _)
  · exact counted _

theorem told_pollTurn (s : State) : Told s (pollTurn s) := by
  unfold pollTurn
  repeat' split
  · exact .refl s
  · exact .of_eq rfl rfl rfl
  · exact told_pollCompleteEnd _ s
  · exact .of_eq rfl rfl rfl

theorem told_pollTest (s : State) : Told s (pollTest s) := by
  unfold pollTest
  split
  · exact (told_pollSet _ _).trans (told_pollTurn _)
  · exact .refl s

theorem told_pollEngineStopped (s : State) : Told s (pollEngineStopped s) := by
  unfold pollEngineStopped
  split <;> exact .of_eq rfl rfl rfl

theorem told_pollStationGone (n : Nat) (s : State) : Told s (pollStationGone n s) := by
  unfold pollStationGone
  repeat' split
  · exact .refl s
  · exact (told_pollSet _ _).trans (told_pollTurn _)
  · exact .of_eq rfl rfl rfl

theorem told_pollService (n : Nat) (last : Option Reply) (s : State) : Told s (pollService n last s) := by
  unfold pollService
  repeat' split
  · exact (told_raise _ s).trans (.of_eq rfl rfl rfl)
  · exact .refl s
  · exact .refl s

theorem told_pollReport (n : Nat) (r : AttemptResult) (last : Option Reply) (s : State) : Told s (pollReport n r last s) := by
  unfold pollReport
  split
  · exact (told_pollService n last s).trans (told_pollEngineStopped _)
  · exact (told_pollService n last s).trans ((told_pollSet _ _).trans (told_pollTurn _))

theorem told_stationChanged (n : Nat) (a b : StationState) (s : State) : Told s (stationChanged n a b s) := by
  unfold stationChanged
  split
  · exact (told_raise _ s).trans (told_pollStationGone n _)
  · exact told_raise _ s

theorem told_stationWrite (n : Nat) (r : Station) (a b : StationState) (s : State) :
    Told s (stationChanged n a b (setStation n r s)) :=
  (told_setStation n r s).trans (told_stationChanged n a b _)

theorem told_stationReport (n : Nat) (r : Option Reply) (f : Bool) (s : State) : Told s (stationReport n r f s) := by
  unfold stationReport
  dsimp only
  split
  · exact .of_eq rfl rfl rfl
  · exact (told_setStation n _ s).trans (told_raise _ _)

theorem told_handCompletion (c : Completion) (s : State) : Told s (handCompletion c s) := by
  unfold handCompletion
  split
  · exact told_raise _ s
  · exact .of_eq rfl rfl rfl

theorem told_clearLiveTicket (i ticket : Nat) (s : State) : Told s (clearLiveTicket i ticket s) := by
  unfold clearLiveTicket
  split <;> exact .of_eq rfl rfl rfl

theorem told_takeReport (c : Completion) (s : State) : Told s (takeReport c s) := by
  cases origin : c.origin with
  | host =>
    have same : takeReport c s = s := by simp only [takeReport, origin]
    rw [same]
    exact .refl s
  | schedule i g =>
    by_cases current : (s.entryAt i).generation = g
    · rw [takeReport_current origin current]
      split
      · exact (told_clearLiveTicket i _ s).trans (told_raise _ _)
      · exact told_clearLiveTicket i _ s
    · rw [takeReport_stale origin current]
      exact .refl s

theorem told_takeNextReport (s : State) : Told s (takeNextReport s) := by
  unfold takeNextReport
  split
  · exact (told_setReports s _).trans (told_takeReport _ _)
  · exact .refl s

theorem told_takeReports (s : State) : Told s (takeReports s) := by
  have fold : ∀ (l : List Completion) (u : State), Told u (l.foldl (fun t c => takeReport c t) u) := by
    intro l
    induction l with
    | nil => exact fun u => .refl u
    | cons c rest ih => exact fun u => (told_takeReport c u).trans (ih _)
  exact (told_setReports s []).trans (fold _ _)

/-! ### The steps of an end of work, down to the hand-over (R53) -/

theorem told_endReport (r : AttemptResult) (s : State) : Told s (endReport r s) := by
  unfold endReport
  split
  · exact told_stationReport _ _ _ s
  · exact .refl s

theorem told_endReferral (o : TxnOutcome) (r : AttemptResult) (s : State) : Told s (endReferral o r s) := by
  unfold endReferral
  split
  · exact told_raise _ s
  · exact .refl s

theorem told_endHandOver (o : TxnOutcome) (r : AttemptResult) (s : State) : Told s (endHandOver o r s) := by
  unfold endHandOver
  split
  · exact told_handCompletion _ s
  · exact told_pollReport _ _ _ s
  · exact .refl s

theorem told_endReports (r : AttemptResult) (b s : State) : Told s (endReports r b s) := by
  unfold endReports
  split
  · exact told_takeReports s
  · exact .refl s

theorem told_endMember (b s : State) : Told s (endMember b s) := by
  unfold endMember
  repeat' split
  · exact told_pollStationGone _ s
  · exact .refl s
  · exact .refl s

/-- The state of an end of work as step 3 finds it (R53). -/
def endTaken (o : TxnOutcome) (r : AttemptResult) (s : State) : State :=
  endMember s (endReports r s (endHandOver o r (endReferral o r (endReport r s))))

theorem endWork_eq (o : TxnOutcome) (r : AttemptResult) (s : State) :
    endWork o r s = endState r (clearWork (endTaken o r s)) := rfl

theorem told_endTaken (o : TxnOutcome) (r : AttemptResult) (s : State) : Told s (endTaken o r s) :=
  (told_endReport r s).trans ((told_endReferral o r _).trans ((told_endHandOver o r _).trans
    ((told_endReports r s _).trans (told_endMember s _))))

/-! ### Where the engine acts: notices are raised, no more -/

theorem raised_enterPaused (s : State) : Raised s (enterPaused s) :=
  (raised_raise _ { s with engine := { s.engine with state := .paused, pausePending := false } }).trans
    (told_pollEngineStopped _).raised

theorem raised_enterFault (s : State) : Raised s (enterFault s) :=
  (raised_raise _ { s with engine := { s.engine with state := .fault, pausePending := false } }).trans
    (told_pollEngineStopped _).raised

theorem raised_endState (r : AttemptResult) (s : State) : Raised s (endState r s) := by
  unfold endState
  repeat' split
  · exact raised_enterFault s
  · exact raised_enterPaused s
  · exact .of_eq rfl

theorem raised_endWork (o : TxnOutcome) (r : AttemptResult) (s : State) : Raised s (endWork o r s) :=
  (told_endTaken o r s).raised.trans (raised_endState r (clearWork _))

theorem raised_completeAtTake (t : Transaction) (o : TxnOutcome) (s : State) : Raised s (completeAtTake t o s) := by
  have handed : Raised s (clearWork (handCompletion (s.engine.completion t o) s)) := (told_handCompletion _ s).raised
  unfold completeAtTake
  dsimp only
  split
  · exact handed.trans (raised_enterPaused _)
  · exact handed

theorem raised_grantQueue (s : State) : Raised s (grantQueue s).1 := by
  unfold grantQueue
  split
  · dsimp only
    split
    · exact raised_completeAtTake _ _ (takeWork _ _ s)
    · exact .of_eq rfl
  · exact .of_eq rfl

theorem raised_grantOnce (s : State) : Raised s (grantOnce s).1 := by
  unfold grantOnce
  repeat' split
  · exact .of_eq rfl
  · exact .refl s
  · exact raised_grantQueue s
  · exact .refl s

theorem raised_grantLoop (fuel : Nat) (s : State) : Raised s (grantLoop fuel s) := by
  induction fuel generalizing s with
  | zero => exact .refl s
  | succ n ih =>
    unfold grantLoop
    split
    · exact (raised_grantOnce s).trans (ih _)
    · exact raised_grantOnce s

theorem raised_decideGrant (s : State) : Raised s (decideGrant s) := raised_grantLoop _ s

theorem raised_takeDecided (s : State) : Raised s (takeDecided s) := by
  unfold takeDecided
  dsimp only
  repeat' split
  · exact (raised_grantQueue s).trans (raised_decideGrant _)
  · exact raised_grantQueue s
  · exact .refl s

theorem raised_finishWork (o : TxnOutcome) (r : AttemptResult) (s : State) : Raised s (finishWork o r s) :=
  (raised_endWork o r s).trans (raised_decideGrant _)

theorem raised_openReferral (x : Exchange) (r : Reply) (s : State) : Raised s (openReferral x r s) := raised_raise _ _

theorem raised_closeReferral (r : Referral) (c : Closure) (a : List Byte) (s : State) : Raised s (closeReferral r c a s) := by
  refine .of_eq ?_
  unfold closeReferral beginVerdict
  dsimp only
  split <;> rfl

theorem raised_attemptEnd (t : Transaction) (x : Exchange) (r : AttemptResult) (s : State) : Raised s (attemptEnd t x r s) := by
  unfold attemptEnd
  split
  · rename_i y
    dsimp only
    split
    · exact raised_finishWork _ _ (noteReply y s)
    · exact raised_finishWork _ _ (noteReply y s)
    · split
      · exact .of_eq rfl
      · exact raised_finishWork _ _ (noteReply y s)
    · exact raised_openReferral x y (noteReply y s)
  · exact raised_finishWork _ _ s
  · split
    · exact .of_eq rfl
    · exact raised_finishWork _ _ s
  · exact raised_finishWork _ _ s

theorem raised_pollEnd (x : Exchange) (r : AttemptResult) (s : State) : Raised s (pollEnd x r s) := by
  unfold pollEnd
  repeat' split
  · exact raised_openReferral x _ (noteReply _ s)
  · exact raised_finishWork _ _ (noteReply _ s)
  all_goals exact raised_finishWork _ _ s

theorem raised_verdictEnd (r : AttemptResult) (s : State) : Raised s (verdictEnd r s) := by
  unfold verdictEnd
  cases r with
  | reply y => exact raised_finishWork _ _ (noteReply y s)
  | sent => exact raised_finishWork _ _ s
  | failed f => exact raised_finishWork _ _ s
  | lineFault => exact raised_finishWork _ _ s

/-- An exchange's context is discarded and its result counted (R34). -/
def endCounted (x : Exchange) (r : AttemptResult) (s : State) : State :=
  { s with engine := { s.engine with exchange := none, counters := countResult x.kind r s.engine.counters } }

/-- The engine's action on a result, by the kind of exchange and, for an attempt, the work. -/
theorem endExchange_cases {M : State → Prop} (x : Exchange) (r : AttemptResult) (s : State)
    (attempt : ∀ t, x.kind = .attempt → s.engine.work = some (.transaction t) → M (attemptEnd t x r (endCounted x r s)))
    (stray : x.kind = .attempt → (∀ t, s.engine.work ≠ some (.transaction t)) → M (endCounted x r s))
    (poll : x.kind = .poll → M (pollEnd x r (endCounted x r s)))
    (verdict : x.kind = .confirm ∨ x.kind = .deny → M (verdictEnd r (endCounted x r s))) : M (endExchange x r s) := by
  unfold endExchange
  dsimp only
  split
  · rename_i kind
    split
    · rename_i t work
      exact attempt t kind work
    · rename_i other
      exact stray kind other
  · rename_i kind
    exact poll kind
  · rename_i kind
    exact verdict (.inl kind)
  · rename_i kind
    exact verdict (.inr kind)

theorem raised_endExchange (x : Exchange) (r : AttemptResult) (s : State) : Raised s (endExchange x r s) :=
  endExchange_cases (M := Raised s) x r s (fun t _ _ => raised_attemptEnd t x r (endCounted x r s)) (fun _ _ => .of_eq rfl)
    (fun _ => raised_pollEnd x r (endCounted x r s)) (fun _ => raised_verdictEnd r (endCounted x r s))

theorem raised_resumeIdle (s : State) : Raised s (resumeIdle s) := by
  unfold resumeIdle decideThenPresent
  dsimp only
  repeat' split
  · exact (told_pollTest { s with engine := { s.engine with state := .idle }, choices := s.choices + 1 }).raised.trans
      (raised_decideGrant { pollTest _ with poll := _ })
  · exact (raised_grantOnce { s with engine := { s.engine with state := .idle }, choices := s.choices + 1 }).trans
      ((told_pollTest _).raised.trans (raised_decideGrant { pollTest _ with poll := _ }))
  · exact (raised_grantOnce { s with engine := { s.engine with state := .idle }, choices := s.choices + 1 }).trans
      (told_pollTest _).raised
  · exact raised_decideGrant { s with engine := { s.engine with state := .idle } }

theorem raised_latnReleased (s : State) : Raised s (latnReleased s) := by
  unfold latnReleased
  split
  · exact (raised_raise _ { s with poll := _ }).trans (told_pollTest _).raised
  · exact .refl s

theorem raised_pollHoldoffExpiry (s : State) : Raised s (pollHoldoffExpiry s) := by
  unfold pollHoldoffExpiry
  split
  · exact (told_pollTest { s with poll := _ }).raised
  · exact .refl s

theorem raised_requestPresented (s : State) : Raised s (requestPresented s) := by
  unfold requestPresented
  split
  · exact raised_decideGrant { s with poll := _ }
  · exact .refl s

theorem raised_fireEntry (ev : SecondBoundary) (i : Nat) (s : State) : Raised s (fireEntry ev i s) := by
  unfold fireEntry
  dsimp only
  repeat' split
  all_goals first
    | exact raised_raise _ (setEntry i _ s)
    | exact raised_raise _ (setEntry i _ (admission _ _ s))
    | exact .of_eq rfl

end Sys2Proof.Machine
end

section
/-! SUPPORT. The Notice Unit's record stays in order: its parts one by one, and what each act on it keeps. -/

namespace Sys2Proof.Machine

/-- The record's invariant, part by part (R153 to R157). -/
theorem NoticeUnit.ok_iff (u : NoticeUnit) : u.ok = true ↔
    (u.queue.length ≤ 16 ∧ (∀ n ∈ u.queue, n.seq < 256) ∧ runsTo u.seqCounter u.queue = true ∧ u.seqCounter < 256) ∧
    (u.lostCount ≤ 255 ∧ (u.lostCount = 0 ∨ u.queue.length = 16)) ∧ u.credit ≤ 16 ∧ (u.mode = .pull ∨ u.credit = 0) := by
  unfold NoticeUnit.ok Config.noticeCapacity
  simp only [Bool.and_eq_true, Bool.or_eq_true, decide_eq_true_eq, beq_iff_eq, List.all_eq_true, and_assoc]

/-! ### Sequence numbers (R153) -/

/-- The oldest notice is followed by the number of the next one, or by the counter. -/
theorem runsTo_cons (c : Nat) (n : Notice) (q : List Notice) :
    runsTo c (n :: q) = (wrap256 n.seq == ((q.map (·.seq)).head?).getD c && runsTo c q) := by
  cases q <;> simp [runsTo]

/-- A notice with the counter's number goes behind the queue, and the counter behind it. -/
theorem runsTo_append {c : Nat} {x : Notice} (number : x.seq = c) (q : List Notice) (h : runsTo c q = true) :
    runsTo (wrap256 c) (q ++ [x]) = true := by
  induction q with
  | nil => simp [runsTo, number]
  | cons n rest ih =>
    cases rest with
    | nil =>
      simp only [runsTo, beq_iff_eq] at h
      simp [runsTo, h, number]
    | cons m rest =>
      simp only [runsTo, Bool.and_eq_true, List.cons_append] at h ih ⊢
      exact ⟨h.1, ih h.2⟩

/-- The newer notices of a queue that runs to the counter run to it too. -/
theorem runsTo_drop {c : Nat} (k : Nat) (q : List Notice) (h : runsTo c q = true) : runsTo c (q.drop k) = true := by
  induction q generalizing k with
  | nil => simpa using h
  | cons n rest ih =>
    cases k with
    | zero => exact h
    | succ k =>
      refine ih k ?_
      cases rest with
      | nil => rfl
      | cons m rest =>
        simp only [runsTo, Bool.and_eq_true] at h
        exact h.2

/-- Marking the oldest notice as transmitted changes no sequence number. -/
theorem markOldest_seqs (q : List Notice) : (markOldest q).map (·.seq) = q.map (·.seq) := by
  induction q with
  | nil => rfl
  | cons n rest ih =>
    unfold markOldest
    split
    · simp only [List.map_cons, ih]
    · rfl

/-- Two queues with the same numbers run to the same counter. -/
theorem runsTo_of_seqs {c : Nat} (p q : List Notice) (same : p.map (·.seq) = q.map (·.seq)) (h : runsTo c q = true) :
    runsTo c p = true := by
  induction p generalizing q with
  | nil => rfl
  | cons n rest ih =>
    match q, same with
    | m :: more, same =>
      obtain ⟨head, tail⟩ : n.seq = m.seq ∧ rest.map (·.seq) = more.map (·.seq) := List.cons.inj same
      simp only [runsTo_cons, Bool.and_eq_true] at h ⊢
      rw [head, tail]
      exact ⟨h.1, ih more tail h.2⟩

theorem forall_seq_of_seqs {p q : List Notice} (same : p.map (·.seq) = q.map (·.seq)) (h : ∀ n ∈ q, n.seq < 256) :
    ∀ n ∈ p, n.seq < 256 := by
  intro n held
  have number : n.seq ∈ q.map (·.seq) := same ▸ List.mem_map_of_mem held
  obtain ⟨m, old, eq⟩ := List.mem_map.mp number
  exact eq ▸ h m old

/-- Another queue with the same numbers keeps the record in order. -/
theorem ok_of_seqs {u v : NoticeUnit} (ok : u.ok = true) (same : v.queue.map (·.seq) = u.queue.map (·.seq))
    (counter : v.seqCounter = u.seqCounter) (lost : v.lostCount = u.lostCount) (credit : v.credit ≤ u.credit)
    (mode : v.mode = u.mode) : v.ok = true := by
  obtain ⟨⟨room, seqs, runs, below⟩, ⟨lostMost, lostFull⟩, most, pull⟩ := u.ok_iff.mp ok
  have length : v.queue.length = u.queue.length := by simpa using congrArg List.length same
  refine v.ok_iff.mpr ⟨⟨by omega, forall_seq_of_seqs same seqs, ?_, by omega⟩, ⟨by omega, by omega⟩, by omega, ?_⟩
  · rw [counter]
    exact runsTo_of_seqs _ _ same runs
  · rw [mode]
    exact pull.imp_right fun zero => by omega

/-! ### What each act on the unit keeps -/

/-- A raised notice keeps the record in order: with room it takes the counter's number, without room it is counted. -/
theorem raise_ok (ts : Option Timestamp) (b : NoticeBody) {u : NoticeUnit} (ok : u.ok = true) : (u.raise ts b).ok = true := by
  obtain ⟨⟨room, seqs, runs, below⟩, ⟨lostMost, lostFull⟩, credit⟩ := u.ok_iff.mp ok
  have next : wrap256 u.seqCounter < 256 := Nat.mod_lt _ (by decide)
  unfold NoticeUnit.raise Config.noticeCapacity
  split
  · have none : u.lostCount = 0 := by omega
    refine (NoticeUnit.ok_iff _).mpr ⟨⟨?_, ?_, ?_, next⟩, ⟨lostMost, .inl none⟩, credit⟩
    case refine_3 => exact runsTo_append (x := { seq := u.seqCounter, timestamp := ts, body := b, transmitted := false }) rfl _ runs
    · rw [List.length_append, List.length_singleton]
      omega
    · intro n held
      obtain old | new := List.mem_append.mp held
      · exact seqs n old
      · rw [List.mem_singleton.mp new]
        exact below
  · have full : u.queue.length = 16 := by omega
    exact (NoticeUnit.ok_iff _).mpr ⟨⟨room, seqs, runs, below⟩, ⟨by simp only [sat_eq_min]; omega, .inr full⟩, credit⟩

theorem raiseAll_ok (l : List (Option Timestamp × NoticeBody)) {u : NoticeUnit} (ok : u.ok = true) : (u.raiseAll l).ok = true := by
  induction l generalizing u with
  | nil => exact ok
  | cons n rest ih => exact ih (raise_ok n.1 n.2 ok)

theorem Raised.ok {s t : State} (h : Raised s t) (ok : s.notices.ok = true) : t.notices.ok = true := by
  obtain ⟨l, eq⟩ := h
  rw [eq]
  exact raiseAll_ok l ok

/-- An acknowledgement frees a slot, so what was lost is reported and the lost count returns to 0 (R155). -/
theorem noteAck_ok {s : State} (i : Nat) (held : i < s.notices.queue.length) (ok : s.notices.ok = true) :
    (reportLost (removeThrough i s)).notices.ok = true := by
  obtain ⟨⟨room, seqs, runs, below⟩, ⟨lostMost, -⟩, credit⟩ := s.notices.ok_iff.mp ok
  have freed : (s.notices.queue.drop (i + 1)).length < 16 := by
    rw [List.length_drop]
    omega
  have kept : ({ s.notices with queue := s.notices.queue.drop (i + 1), lostCount := 0 } : NoticeUnit).ok = true :=
    (NoticeUnit.ok_iff _).mpr ⟨⟨freed.le, fun n old => seqs n (List.mem_of_mem_drop old), runsTo_drop _ _ runs, below⟩,
      ⟨Nat.zero_le _, .inl rfl⟩, credit⟩
  have room : (removeThrough i s).notices.queue.length < Config.noticeCapacity := freed
  unfold reportLost
  split
  · exact raise_ok _ _ kept
  · rename_i none
    have zero : s.notices.lostCount = 0 := by
      by_contra some
      exact none ⟨Nat.pos_of_ne_zero some, room⟩
    rw [← zero] at kept
    exact kept

/-- A start leaves the unit with its START notice, and the Poll Unit may raise another. -/
theorem start_notices_ok (k : StartKind) (s : State) : (start k s).notices.ok = true := by
  have blocks : (startBlocks k s).notices.ok = true := by
    refine (NoticeUnit.ok_iff _).mpr ?_
    unfold startBlocks NoticeUnit.started
    cases k <;> simp [StartKind.clears, NoticeUnit.initial, runsTo]
  exact (told_pollTest _).raised.ok (raise_ok _ _ blocks)

/-- Every act keeps the unit's record in order. -/
theorem Act.notices_ok {s t : State} (act : Act s t) (ok : s.notices.ok = true) : t.notices.ok = true := by
  cases act
  case interface h => rw [h.notices]; exact ok
  case start k v b => exact start_notices_ok k _
  case powerLoss => rfl
  case raise b => exact (raised_raise b s).ok ok
  case noticeTaken =>
    refine ok_of_seqs ok (markOldest_seqs _) rfl rfl ?_ rfl
    unfold NoticeUnit.taken
    dsimp only
    split <;> omega
  case noteAck i held => exact noteAck_ok i held ok
  case noteFetch n most pull =>
    obtain ⟨queue, lost, -, -⟩ := s.notices.ok_iff.mp ok
    have mode : s.notices.mode = .pull := by
      cases m : s.notices.mode with
      | push => exact absurd m pull
      | pull => rfl
    exact (NoticeUnit.ok_iff _).mpr ⟨queue, lost, most, .inl mode⟩
  case noteReplay => exact ok_of_seqs ok (by rw [List.map_map]; rfl) rfl rfl le_rfl rfl
  case noteConfig m e =>
    obtain ⟨queue, lost, most, pull⟩ := s.notices.ok_iff.mp ok
    refine (NoticeUnit.ok_iff _).mpr ⟨queue, lost, ?_⟩
    dsimp only
    split
    · rename_i same
      exact ⟨most, same ▸ pull⟩
    · exact ⟨Nat.zero_le _, .inr rfl⟩
  case report => exact (told_takeNextReport s).raised.ok ok
  case stnDefine => exact (told_stationWrite _ _ _ _ s).raised.ok ok
  case stnForget => exact (told_stationWrite _ _ _ _ s).raised.ok ok
  case stnRestore => exact (told_stationWrite _ _ _ _ s).raised.ok ok
  case send => exact (raised_decideGrant (admission _ _ s)).ok ok
  case cancel => exact (told_handCompletion _ { s with queue := _ }).raised.ok ok
  case pause => exact (raised_enterPaused s).ok ok
  case resume => exact (raised_resumeIdle s).ok ok
  case closeReferral => exact (raised_closeReferral _ _ _ s).ok ok
  case exchangeEnds => exact (raised_endExchange _ _ s).ok ok
  case latnHeld => exact (told_pollTest { s with latnHeld := true }).raised.ok ok
  case latnReleased => exact (raised_latnReleased { s with latnHeld := false }).ok ok
  case holdoffExpiry => exact (raised_pollHoldoffExpiry s).ok ok
  case presented => exact (raised_requestPresented s).ok ok
  case decide => exact (raised_decideGrant s).ok ok
  case takeDecided => exact (raised_takeDecided s).ok ok
  all_goals exact ok

/-- Settles O4: outside the Notice Unit's own requests, starts and the transmitter, an act at most raises notices. -/
theorem noticesStayInOrder : Obligations.NoticesStayInOrder := by
  intro s t ok next
  exact step_keeps_of_acts (P := fun u => u.notices.ok = true) (fun _ _ act => act.notices_ok)
    (fun ev i u => (raised_fireEntry ev i u).ok) ok next

end Sys2Proof.Machine
end

section
/-! SUPPORT. The Dispatch Queue and the live tickets in a step: what an admission, a take, a cancellation and an end of work each do
to them, and that every step keeps the tickets distinct and the queue in its bounds. -/

namespace Sys2Proof.Machine

/-! ### The invariant on the queue and the ticket at the engine (R2 to R5) -/

/-- The queue's bounds, and the tickets of the queued transactions with the one at the engine. -/
structure TicketsOk (q : DispatchQueue) (running : Option Nat) : Prop where
  count : q.count ≤ 24
  hostCount : q.hostCount ≤ 20
  distinct : (q.order.map (·.ticket) ++ running.toList).Nodup
  inRange : ∀ t ∈ q.order.map (·.ticket) ++ running.toList, 1 ≤ t ∧ t ≤ 65535
  counter : 1 ≤ q.ticketCounter ∧ q.ticketCounter ≤ 65535
  urgent : ∀ t ∈ q.urgent, t.spec.cls = .urgent
  normal : ∀ t ∈ q.normal, t.spec.cls = .normal

theorem ticketsOk_iff (s : State) : s.ticketsOk = true ↔ TicketsOk s.queue s.engine.ticket := by
  unfold State.ticketsOk State.liveTickets
  simp only [Bool.and_eq_true, decide_eq_true_eq, List.all_eq_true, beq_iff_eq, and_assoc]
  constructor
  · rintro ⟨count, hostCount, distinct, range, low, high, urgent, normal⟩
    exact ⟨count, hostCount, distinct, range, ⟨low, high⟩, urgent, normal⟩
  · rintro ⟨count, hostCount, distinct, range, ⟨low, high⟩, urgent, normal⟩
    exact ⟨count, hostCount, distinct, range, low, high, urgent, normal⟩

/-- The work leaves the engine. -/
theorem TicketsOk.done {q : DispatchQueue} {running : Option Nat} (h : TicketsOk q running) : TicketsOk q none := by
  obtain ⟨count, hostCount, distinct, range, counter, urgent, normal⟩ := h
  refine ⟨count, hostCount, ?_, fun t live => range t ?_, counter, urgent, normal⟩
  · rw [Option.toList_none, List.append_nil]
    exact distinct.of_append_left
  · rw [Option.toList_none, List.append_nil] at live
    exact List.mem_append_left _ live

/-- What a take removes: the first of the URGENT, else the first of the NORMAL. -/
theorem takeHead_cases {q q' : DispatchQueue} {t : Transaction} (h : q.takeHead = some (t, q')) :
    q = { q' with urgent := t :: q'.urgent } ∨ (q.urgent = [] ∧ q = { q' with normal := t :: q'.normal }) := by
  obtain ⟨urgent, normal, counter⟩ := q
  unfold DispatchQueue.takeHead at h
  cases urgent with
  | cons u rest =>
    cases h
    exact .inl rfl
  | nil =>
    cases normal with
    | cons u rest =>
      cases h
      exact .inr ⟨rfl, rfl⟩
    | nil => cases h

/-- The head stands first in the order, and the rest behind it. -/
theorem takeHead_order {q q' : DispatchQueue} {t : Transaction} (h : q.takeHead = some (t, q')) :
    q.order = t :: q'.order := by
  unfold DispatchQueue.order
  obtain rfl | ⟨none, rfl⟩ := takeHead_cases h
  · rfl
  · dsimp only at none ⊢
    rw [none]
    rfl

theorem count_eq_length (q : DispatchQueue) : q.count = q.order.length := List.length_append.symm

theorem hostCount_eq_countP (q : DispatchQueue) : q.hostCount = q.order.countP (·.isHost) := List.countP_append.symm

/-- The head goes from the queue to the engine. -/
theorem TicketsOk.take {q q' : DispatchQueue} {running : Option Nat} {t : Transaction} (h : TicketsOk q running)
    (head : q.takeHead = some (t, q')) : TicketsOk q' (some t.ticket) := by
  obtain ⟨count, hostCount, distinct, range, counter, urgent, normal⟩ := h
  have order := takeHead_order head
  rw [count_eq_length, order, List.length_cons] at count
  rw [hostCount_eq_countP, order, List.countP_cons] at hostCount
  rw [order, List.map_cons] at distinct range
  have live : (q'.order.map (·.ticket) ++ [t.ticket]).Perm (t.ticket :: q'.order.map (·.ticket)) :=
    List.perm_append_comm
  refine ⟨by rw [count_eq_length]; omega, by rw [hostCount_eq_countP]; omega, ?_, fun k alive => range k ?_, ?_, ?_, ?_⟩
  · exact live.nodup_iff.mpr distinct.of_append_left
  · exact List.mem_append_left _ (live.mem_iff.mp alive)
  all_goals obtain rfl | ⟨-, rfl⟩ := takeHead_cases head
  · exact counter
  · exact counter
  · exact fun u queued => urgent u (List.mem_cons_of_mem _ queued)
  · exact urgent
  · exact normal
  · exact fun u queued => normal u (List.mem_cons_of_mem _ queued)

/-- A placed record stands once more in the order, and at the place of its class. -/
theorem order_place (t : Transaction) (q : DispatchQueue) : (q.place t).order.Perm (t :: q.order) := by
  unfold DispatchQueue.place DispatchQueue.order
  split
  · dsimp only
    rw [List.append_assoc]
    exact List.perm_middle
  · dsimp only
    rw [← List.append_assoc]
    exact List.perm_append_comm

/-- An admission with room for it (R3, R5, R7). -/
theorem TicketsOk.placed {s : State} (h : TicketsOk s.queue s.engine.ticket) (o : Origin) (spec : TxnSpec)
    (room : s.queue.count < 24) (quota : o = .host → s.queue.hostCount < 20) :
    TicketsOk (admission o spec s).queue s.engine.ticket := by
  obtain ⟨free, low, high, -⟩ := ticketToGive_free s ((ticketsOk_iff s).mpr h)
  obtain ⟨count, hostCount, distinct, range, counter, urgent, normal⟩ := h
  have order : (admission o spec s).queue.order.Perm (s.newTransaction o spec :: s.queue.order) := order_place _ s.queue
  have live : ((admission o spec s).queue.order.map (·.ticket) ++ s.engine.ticket.toList).Perm
      (s.ticketToGive :: s.liveTickets) := (order.map (·.ticket)).append_right _
  refine ⟨?_, ?_, live.nodup_iff.mpr (List.nodup_cons.mpr ⟨free, distinct⟩), fun t alive => ?_, ?_, ?_, ?_⟩
  · rw [count_eq_length, order.length_eq, List.length_cons, ← count_eq_length]
    omega
  · rw [hostCount_eq_countP, order.countP_eq, List.countP_cons, ← hostCount_eq_countP]
    split
    · rename_i host
      have origin : o = .host := beq_iff_eq.mp host
      have less := quota origin
      omega
    · exact hostCount
  · obtain rfl | old := List.mem_cons.mp (live.mem_iff.mp alive)
    · exact ⟨low, high⟩
    · exact range t old
  · rw [admission_ticketCounter]
    unfold nextTicket
    split <;> omega
  all_goals
    intro t queued
    unfold admission DispatchQueue.place at queued
    dsimp only at queued
    split at queued
  · rename_i cls
    obtain old | new := List.mem_append.mp queued
    · exact urgent t old
    · rw [List.mem_singleton.mp new]
      exact cls
  · exact urgent t queued
  · exact normal t queued
  · rename_i cls
    obtain old | new := List.mem_append.mp queued
    · exact normal t old
    · rw [List.mem_singleton.mp new]
      exact cls

/-- A queued transaction is cancelled (R12). -/
theorem TicketsOk.remove {q : DispatchQueue} {running : Option Nat} (h : TicketsOk q running) (ticket : Nat) :
    TicketsOk (q.remove ticket) running := by
  obtain ⟨count, hostCount, distinct, range, counter, urgent, normal⟩ := h
  have rest : (q.remove ticket).order.Sublist q.order := List.filter_sublist.append List.filter_sublist
  have live : ((q.remove ticket).order.map (·.ticket) ++ running.toList).Sublist (q.order.map (·.ticket) ++ running.toList) :=
    (rest.map _).append (.refl _)
  refine ⟨?_, ?_, distinct.sublist live, fun t alive => range t (live.subset alive), counter,
    fun t queued => urgent t (List.mem_of_mem_filter queued), fun t queued => normal t (List.mem_of_mem_filter queued)⟩
  · rw [count_eq_length] at count ⊢
    exact rest.length_le.trans count
  · rw [hostCount_eq_countP] at hostCount ⊢
    exact rest.countP_le.trans hostCount

/-! ### What the operations keep -/

section
variable {s t : State}

/-- A change that leaves the queue and the work keeps the invariant. -/
theorem ticketsOk_of_eq (queue : t.queue = s.queue) (work : t.engine.work = s.engine.work) (ok : s.ticketsOk = true) :
    t.ticketsOk = true := by
  rw [ticketsOk_iff] at ok ⊢
  unfold LineEngine.ticket at ok ⊢
  rw [queue, work]
  exact ok

/-- A change that leaves the queue and ends the work, or turns to a poll, keeps the invariant. -/
theorem ticketsOk_of_done (queue : t.queue = s.queue) (work : t.engine.ticket = none) (ok : s.ticketsOk = true) :
    t.ticketsOk = true := by
  rw [ticketsOk_iff] at ok ⊢
  rw [queue, work]
  exact ok.done

theorem Told.work (h : Told s t) : t.engine.work = s.engine.work := by
  obtain ⟨n, eq, -⟩ := h.engine
  rw [eq]

theorem Told.ticketsOk (h : Told s t) (ok : s.ticketsOk = true) : t.ticketsOk = true := ticketsOk_of_eq h.queue h.work ok

end

section
variable (s : State)

theorem enterPaused_queue : (enterPaused s).queue = s.queue := (told_pollEngineStopped _).queue

theorem enterPaused_work : (enterPaused s).engine.work = s.engine.work := (told_pollEngineStopped _).work

theorem enterFault_queue : (enterFault s).queue = s.queue := (told_pollEngineStopped _).queue

theorem enterFault_work : (enterFault s).engine.work = s.engine.work := (told_pollEngineStopped _).work

theorem endState_queue (r : AttemptResult) : (endState r s).queue = s.queue := by
  unfold endState
  repeat' split
  · exact enterFault_queue s
  · exact enterPaused_queue s
  · rfl

theorem endState_work (r : AttemptResult) : (endState r s).engine.work = s.engine.work := by
  unfold endState
  repeat' split
  · exact enterFault_work s
  · exact enterPaused_work s
  · rfl

/-- An end of work leaves the queue. -/
theorem endWork_queue (o : TxnOutcome) (r : AttemptResult) : (endWork o r s).queue = s.queue := by
  rw [endWork_eq, endState_queue]
  exact (told_endTaken o r s).queue

/-- An end of work leaves no work. -/
theorem endWork_work (o : TxnOutcome) (r : AttemptResult) : (endWork o r s).engine.work = none := by
  rw [endWork_eq, endState_work]
  rfl

theorem completeAtTake_queue (t : Transaction) (o : TxnOutcome) : (completeAtTake t o s).queue = s.queue := by
  unfold completeAtTake
  dsimp only
  split
  · rw [enterPaused_queue]
    exact (told_handCompletion _ s).queue
  · exact (told_handCompletion _ s).queue

theorem completeAtTake_work (t : Transaction) (o : TxnOutcome) : (completeAtTake t o s).engine.work = none := by
  unfold completeAtTake
  dsimp only
  split
  · rw [enterPaused_work]
    rfl
  · rfl

end

section
variable {s : State}

theorem takeWork_ticketsOk {t : Transaction} {q : DispatchQueue} (head : s.queue.takeHead = some (t, q))
    (ok : s.ticketsOk = true) : (takeWork t q s).ticketsOk = true :=
  (ticketsOk_iff _).mpr (((ticketsOk_iff s).mp ok).take head)

theorem grantQueue_ticketsOk (ok : s.ticketsOk = true) : (grantQueue s).1.ticketsOk = true := by
  unfold grantQueue
  split
  · rename_i t q head
    have taken := takeWork_ticketsOk head ok
    dsimp only
    split
    · rename_i o _
      refine ticketsOk_of_done (completeAtTake_queue _ t o) ?_ taken
      unfold LineEngine.ticket
      rw [completeAtTake_work]
    · exact ticketsOk_of_eq (s := takeWork t q s) rfl rfl taken
  · exact ticketsOk_of_eq (s := s) rfl rfl ok

theorem grantOnce_ticketsOk (ok : s.ticketsOk = true) : (grantOnce s).1.ticketsOk = true := by
  unfold grantOnce
  repeat' split
  · exact ticketsOk_of_done (s := s) rfl rfl ok
  · exact ok
  · exact grantQueue_ticketsOk ok
  · exact ok

/-- What one grant decision keeps, the engine's coming to its decisions keeps. -/
theorem decideGrant_keeps {P : State → Prop} (once : ∀ u, P u → P (grantOnce u).1) (h : P s) : P (decideGrant s) := by
  have loop : ∀ fuel u, P u → P (grantLoop fuel u) := by
    intro fuel
    induction fuel with
    | zero => exact fun u => id
    | succ n ih =>
      intro u hu
      unfold grantLoop
      split
      · exact ih _ (once u hu)
      · exact once u hu
  exact loop _ s h

theorem decideGrant_ticketsOk (ok : s.ticketsOk = true) : (decideGrant s).ticketsOk = true :=
  decideGrant_keeps (P := fun u => u.ticketsOk = true) (fun _ => grantOnce_ticketsOk) ok

theorem takeDecided_ticketsOk (ok : s.ticketsOk = true) : (takeDecided s).ticketsOk = true := by
  unfold takeDecided
  dsimp only
  repeat' split
  · exact decideGrant_ticketsOk (grantQueue_ticketsOk ok)
  · exact grantQueue_ticketsOk ok
  · exact ok

theorem finishWork_ticketsOk (o : TxnOutcome) (r : AttemptResult) (ok : s.ticketsOk = true) :
    (finishWork o r s).ticketsOk = true := by
  refine decideGrant_ticketsOk (ticketsOk_of_done (endWork_queue s o r) ?_ ok)
  unfold LineEngine.ticket
  rw [endWork_work]

theorem closeReferral_ticketsOk (r : Referral) (c : Closure) (a : List Byte) (ok : s.ticketsOk = true) :
    (closeReferral r c a s).ticketsOk = true := by
  unfold closeReferral beginVerdict
  dsimp only
  split <;> exact ticketsOk_of_eq (s := s) rfl rfl ok

theorem attemptEnd_ticketsOk (t : Transaction) (x : Exchange) (r : AttemptResult) (ok : s.ticketsOk = true) :
    (attemptEnd t x r s).ticketsOk = true := by
  unfold attemptEnd
  split
  · rename_i y
    have noted : (noteReply y s).ticketsOk = true := ticketsOk_of_eq (s := s) rfl rfl ok
    dsimp only
    repeat' split
    · exact finishWork_ticketsOk _ _ noted
    · exact finishWork_ticketsOk _ _ noted
    · exact ticketsOk_of_eq (s := s) rfl rfl ok
    · exact finishWork_ticketsOk _ _ noted
    · exact ticketsOk_of_eq (s := s) rfl rfl ok
  · exact finishWork_ticketsOk _ _ ok
  · split
    · exact ticketsOk_of_eq (s := s) rfl rfl ok
    · exact finishWork_ticketsOk _ _ ok
  · exact finishWork_ticketsOk _ _ ok

theorem pollEnd_ticketsOk (x : Exchange) (r : AttemptResult) (ok : s.ticketsOk = true) : (pollEnd x r s).ticketsOk = true := by
  have noted : ∀ y, (noteReply y s).ticketsOk = true := fun y => ticketsOk_of_eq (s := s) rfl rfl ok
  unfold pollEnd
  repeat' split
  · exact ticketsOk_of_eq (s := s) rfl rfl ok
  · exact finishWork_ticketsOk _ _ (noted _)
  all_goals exact finishWork_ticketsOk _ _ ok

theorem verdictEnd_ticketsOk (r : AttemptResult) (ok : s.ticketsOk = true) : (verdictEnd r s).ticketsOk = true := by
  unfold verdictEnd
  cases r with
  | reply y => exact finishWork_ticketsOk (s := noteReply y s) _ _ (ticketsOk_of_eq (s := s) rfl rfl ok)
  | sent => exact finishWork_ticketsOk _ _ ok
  | failed f => exact finishWork_ticketsOk _ _ ok
  | lineFault => exact finishWork_ticketsOk _ _ ok

theorem endExchange_ticketsOk (x : Exchange) (r : AttemptResult) (ok : s.ticketsOk = true) :
    (endExchange x r s).ticketsOk = true := by
  have counted : (endCounted x r s).ticketsOk = true := ticketsOk_of_eq (s := s) rfl rfl ok
  exact endExchange_cases (M := fun u => u.ticketsOk = true) x r s (fun t _ _ => attemptEnd_ticketsOk t x r counted)
    (fun _ _ => counted) (fun _ => pollEnd_ticketsOk x r counted) (fun _ => verdictEnd_ticketsOk r counted)

theorem resumeIdle_ticketsOk (ok : s.ticketsOk = true) : (resumeIdle s).ticketsOk = true := by
  have idle : ∀ c, ({ s with engine := { s.engine with state := .idle }, choices := c } : State).ticketsOk = true :=
    fun c => ticketsOk_of_eq (s := s) rfl rfl ok
  have undue : ∀ u : State, u.ticketsOk = true → (decideGrant { u with poll := { u.poll with due := false } }).ticketsOk = true :=
    fun u h => decideGrant_ticketsOk (ticketsOk_of_eq (s := u) rfl rfl h)
  unfold resumeIdle decideThenPresent
  dsimp only
  repeat' split
  · exact undue _ ((told_pollTest _).ticketsOk (idle _))
  · exact undue _ ((told_pollTest _).ticketsOk (grantOnce_ticketsOk (idle _)))
  · exact (told_pollTest _).ticketsOk (grantOnce_ticketsOk (idle _))
  · exact decideGrant_ticketsOk (idle s.choices)

theorem fireEntry_ticketsOk (ev : SecondBoundary) (i : Nat) (ok : s.ticketsOk = true) : (fireEntry ev i s).ticketsOk = true := by
  unfold fireEntry
  dsimp only
  split
  · exact ok
  · rename_i spec _
    split
    · split <;> exact ok
    · split
      · rename_i room
        have admitted : (admission (.schedule i (s.entryAt i).generation) spec s).ticketsOk = true :=
          (ticketsOk_iff _).mpr (((ticketsOk_iff s).mp ok).placed _ _ room (by simp))
        split <;> exact ticketsOk_of_eq (s := admission _ spec s) rfl rfl admitted
      · split <;> exact ok

/-- Every start leaves the queue empty, the counter at 1 and the engine without work. -/
theorem start_ticketsOk (k : StartKind) (s : State) : (start k s).ticketsOk = true := by
  have blocks : (startBlocks k s).ticketsOk = true := by
    unfold startBlocks LineEngine.started
    cases k <;> rfl
  exact ((told_raise _ _).trans (told_pollTest _)).ticketsOk blocks

end

/-- Every act keeps the tickets distinct and the queue in its bounds. -/
theorem Act.ticketsOk {s t : State} (act : Act s t) (ok : s.ticketsOk = true) : t.ticketsOk = true := by
  cases act
  case interface h => exact ticketsOk_of_eq h.queue (by rw [h.engine]) ok
  case start k v b => exact start_ticketsOk k _
  case powerLoss => rfl
  case noteAck i held =>
    unfold reportLost
    split <;> exact ok
  case report => exact (told_takeNextReport s).ticketsOk ok
  case stnDefine => exact (told_stationWrite _ _ _ _ s).ticketsOk ok
  case stnForget => exact (told_stationWrite _ _ _ _ s).ticketsOk ok
  case stnRestore => exact (told_stationWrite _ _ _ _ s).ticketsOk ok
  case send spec specOk room =>
    have free : ¬ (24 ≤ s.queue.count ∨ 20 ≤ s.queue.hostCount) := fun full =>
      Bool.false_ne_true (room.symm.trans ((refusesHost_iff _).mpr full))
    exact decideGrant_ticketsOk ((ticketsOk_iff (admission .host spec s)).mpr
      (((ticketsOk_iff s).mp ok).placed _ _ (by omega) (fun _ => by omega)))
  case cancel c ticket =>
    exact (told_handCompletion _ { s with queue := s.queue.remove ticket }).ticketsOk
      ((ticketsOk_iff _).mpr (((ticketsOk_iff s).mp ok).remove ticket))
  case pause => exact ticketsOk_of_eq (enterPaused_queue s) (enterPaused_work s) ok
  case resume => exact resumeIdle_ticketsOk ok
  case closeReferral => exact closeReferral_ticketsOk _ _ _ ok
  case exchangeEnds => exact endExchange_ticketsOk _ _ ok
  case latnHeld => exact (told_pollTest { s with latnHeld := true }).ticketsOk ok
  case latnReleased =>
    unfold Machine.latnReleased
    split
    · exact (told_pollTest _).ticketsOk ok
    · exact ok
  case holdoffExpiry =>
    unfold pollHoldoffExpiry
    split
    · exact (told_pollTest _).ticketsOk ok
    · exact ok
  case presented =>
    unfold requestPresented
    split
    · exact decideGrant_ticketsOk ok
    · exact ok
  case decide => exact decideGrant_ticketsOk ok
  case takeDecided => exact takeDecided_ticketsOk ok
  all_goals exact ok

/-- Settles O5: admissions give a free ticket within the bounds, takes and ends of work only remove tickets. -/
theorem ticketsStayDistinct : Obligations.TicketsStayDistinct := by
  intro s t ok next
  exact step_keeps_of_acts (P := fun u => u.ticketsOk = true) (fun _ _ act => act.ticketsOk)
    (fun ev i _ => fireEntry_ticketsOk ev i) ok next

end Sys2Proof.Machine
end

section
/-! SUPPORT. The host link in a step: the receiver's and the queues' bounds, which every block keeps, and that the tests the
interpreter and the transmitter come to leave nothing to take and nothing to send. -/

namespace Sys2Proof.Machine

/-! ### The bounds of the link, and a link that has been served (R168 to R175) -/

/-- The receiver is whole, the queues are within 4 frames, and nothing is sent while the link is off. -/
structure LinkWhole (s : State) : Prop where
  receiver : s.link.receiverOk = true
  counters : s.link.counters.ok = true
  intake : s.link.intake.length ≤ 4
  replies : s.link.replies.length ≤ 4
  quiet : s.linkOn = false → s.link.sending = none

/-- A frame waits only behind a full reply queue, and a transmitter that may send has nothing to send. -/
structure LinkIdle (s : State) : Prop where
  taken : s.link.intake = [] ∨ s.link.replies.length = 4
  sent : s.mayTransmit = true → s.link.replies = [] ∧ s.notices.eligible = none

theorem linkOk_iff (s : State) : s.linkOk = true ↔ LinkWhole s ∧ (s.linkOn = true → LinkIdle s) := by
  have parts : s.linkOk = true ↔ s.link.receiverOk = true ∧ s.link.counters.ok = true ∧ s.link.intake.length ≤ 4 ∧
      s.link.replies.length ≤ 4 ∧ (s.linkOn = true → s.link.intake = [] ∨ s.link.replies.length = 4) ∧
      (s.linkOn = true → s.mayTransmit = true → s.link.replies = [] ∧ s.notices.eligible = none) ∧
      (s.linkOn = false → s.link.sending = none) := by
    unfold State.linkOk Config.intakeCapacity Config.replyCapacity
    cases s.linkOn <;> cases s.mayTransmit <;> simp [and_assoc]
  rw [parts]
  constructor
  · rintro ⟨receiver, counters, intake, replies, taken, sent, quiet⟩
    exact ⟨⟨receiver, counters, intake, replies, quiet⟩, fun on => ⟨taken on, sent on⟩⟩
  · rintro ⟨⟨receiver, counters, intake, replies, quiet⟩, idle⟩
    exact ⟨receiver, counters, intake, replies, fun on => (idle on).taken, fun on => (idle on).sent, quiet⟩

/-- From s to t neither the link changed nor what switches it. -/
structure LinkSide (s t : State) : Prop where
  vdd : t.vdd = s.vdd
  rstnAsserted : t.rstnAsserted = s.rstnAsserted
  hrdy : t.hrdy = s.hrdy
  link : t.link = s.link

theorem LineSide.linkSide {s t : State} (h : LineSide s t) : LinkSide s t := ⟨h.vdd, h.rstnAsserted, h.hrdy, h.link⟩

namespace LinkSide

theorem refl (s : State) : LinkSide s s := ⟨rfl, rfl, rfl, rfl⟩

theorem trans {s t u : State} (h : LinkSide s t) (k : LinkSide t u) : LinkSide s u :=
  ⟨k.vdd.trans h.vdd, k.rstnAsserted.trans h.rstnAsserted, k.hrdy.trans h.hrdy, k.link.trans h.link⟩

theorem linkOn {s t : State} (h : LinkSide s t) : t.linkOn = s.linkOn := by
  unfold State.linkOn
  rw [h.vdd, h.rstnAsserted]

theorem whole {s t : State} (h : LinkSide s t) (w : LinkWhole s) : LinkWhole t := by
  obtain ⟨receiver, counters, intake, replies, quiet⟩ := w
  constructor <;> rw [h.link]
  · exact receiver
  · exact counters
  · exact intake
  · exact replies
  · rw [h.linkOn]
    exact quiet

/-- A change that leaves the notices too leaves a served link served. -/
theorem linkOk {s t : State} (h : LinkSide s t) (notices : t.notices = s.notices) (ok : s.linkOk = true) : t.linkOk = true := by
  unfold State.linkOk State.mayTransmit at ok ⊢
  rw [h.link, h.linkOn, h.hrdy, notices]
  exact ok

end LinkSide

/-! ### What a served frame does to the link (R172, R173) -/

/-- What a request does to the link before its reply is placed: nothing, or its counters are cleared (R179), or a SOFT or CLEAR
start empties it (R180). -/
structure LinkAnswered (s t : State) : Prop where
  vdd : t.vdd = s.vdd
  rstnAsserted : t.rstnAsserted = s.rstnAsserted
  hrdy : t.hrdy = s.hrdy
  link : t.link = s.link ∨ t.link = { s.link with counters := LinkCounters.zero } ∨
    ∃ k rate, (k = .soft ∨ k = .clear) ∧ t.link = s.link.started k rate

theorem LinkSide.answered {s t : State} (h : LinkSide s t) : LinkAnswered s t := ⟨h.vdd, h.rstnAsserted, h.hrdy, .inl h.link⟩

theorem scopeOfByte_cases {b : Byte} {k : StartKind} (h : scopeOfByte b = some k) : k = .soft ∨ k = .clear := by
  unfold scopeOfByte at h
  split_ifs at h <;> cases h
  · exact .inl rfl
  · exact .inr rfl

theorem linkAnswered_resetPart (body : List Byte) (s : State) : LinkAnswered s (answerResetPart body s).state := by
  unfold answerResetPart
  repeat' split
  · rename_i k scope
    have side := lineSide_start k s
    exact ⟨side.vdd, side.rstnAsserted, side.hrdy, .inr (.inr ⟨k, _, scopeOfByte_cases scope, side.link⟩)⟩
  · exact (LinkSide.refl s).answered
  · exact (LinkSide.refl s).answered

theorem linkAnswered_getStats (body : List Byte) (s : State) : LinkAnswered s (answerGetStats body s).state := by
  unfold answerGetStats
  split
  · split
    · rename_i clear _
      cases clear
      · exact (LinkSide.refl s).answered
      · exact ⟨rfl, rfl, rfl, .inr (.inl rfl)⟩
    · exact (LinkSide.refl s).answered
  · exact (LinkSide.refl s).answered

/-- Every other request leaves the link alone. -/
theorem linkSide_answerOwner (k : RequestKind) (body : List Byte) (s : State) (notStats : k ≠ .getStats)
    (notReset : k ≠ .resetPart) : LinkSide s (answerOwner k body s).state := by
  cases k <;> simp only [answerOwner]
  case getStats => exact absurd rfl notStats
  case resetPart => exact absurd rfl notReset
  case busSend => exact (lineSide_answerBusSend body s).linkSide
  case busCancel => exact (lineSide_answerBusCancel body s).linkSide
  case busPause => exact (lineSide_answerBusPause body s).linkSide
  case busResume => exact (lineSide_answerBusResume body s).linkSide
  case refAnswer => exact (lineSide_answerRefAnswer body s).linkSide
  case stnDefine => exact (lineSide_answerStnDefine body s).linkSide
  case stnForget => exact (lineSide_answerStnForget body s).linkSide
  case stnRestore => exact (lineSide_answerStnRestore body s).linkSide
  case calStop =>
    unfold answerCalStop accept refuse
    split
    · dsimp only
      split <;> exact ⟨rfl, rfl, rfl, rfl⟩
    · exact .refl s
  case noteAck =>
    unfold answerNoteAck
    repeat' split
    · exact (LineSide.trans (lineSide_removeThrough _ s) (lineSide_reportLost _)).linkSide
    · exact .refl s
    · exact .refl s
  case getInfo => unfold answerGetInfo; split <;> exact .refl s
  case getStatus => unfold answerGetStatus; split <;> exact .refl s
  case calRead => unfold answerCalRead; split <;> exact .refl s
  case calSet => unfold answerCalSet; repeat' split <;> first | exact ⟨rfl, rfl, rfl, rfl⟩ | skip
  case calRun => unfold answerCalRun; repeat' split <;> first | exact ⟨rfl, rfl, rfl, rfl⟩ | skip
  case calClear => unfold answerCalClear; repeat' split <;> first | exact ⟨rfl, rfl, rfl, rfl⟩ | skip
  case schWrite => unfold answerSchWrite; repeat' split <;> first | exact ⟨rfl, rfl, rfl, rfl⟩ | skip
  case schRead => unfold answerSchRead; repeat' split <;> first | exact .refl s | skip
  case schEnable => unfold answerSchEnable; repeat' split <;> first | exact ⟨rfl, rfl, rfl, rfl⟩ | skip
  case schDisable => unfold answerSchDisable; repeat' split <;> first | exact ⟨rfl, rfl, rfl, rfl⟩ | skip
  case schDelete => unfold answerSchDelete; repeat' split <;> first | exact ⟨rfl, rfl, rfl, rfl⟩ | skip
  case schList => unfold answerSchList; split <;> exact .refl s
  case stnRead => unfold answerStnRead; repeat' split <;> first | exact .refl s | skip
  case lineConfig => unfold answerLineConfig; repeat' split <;> first | exact ⟨rfl, rfl, rfl, rfl⟩ | skip
  case configRead => unfold answerConfigRead; split <;> exact .refl s
  case noteFetch => unfold answerNoteFetch; repeat' split <;> first | exact ⟨rfl, rfl, rfl, rfl⟩ | skip
  case noteReplay => unfold answerNoteReplay; split <;> exact ⟨rfl, rfl, rfl, rfl⟩
  case noteConfig => unfold answerNoteConfig; repeat' split <;> first | exact ⟨rfl, rfl, rfl, rfl⟩ | skip

theorem linkAnswered_answerRequest (k : RequestKind) (body : List Byte) (s : State) :
    LinkAnswered s (answerRequest k body s).state := by
  unfold answerRequest
  split
  · by_cases stats : k = .getStats
    · subst stats
      exact linkAnswered_getStats body s
    · by_cases reset : k = .resetPart
      · subst reset
        exact linkAnswered_resetPart body s
      · exact (linkSide_answerOwner k body s stats reset).answered
  · exact (LinkSide.refl s).answered

/-- What serving frames with free slots leaves of the link: its bounds, its switches, the frame on HTXD, and no more waiting
frames than before. -/
structure LinkServing (s t : State) : Prop where
  whole : LinkWhole t
  linkOn : t.linkOn = s.linkOn
  hrdy : t.hrdy = s.hrdy
  sending : t.link.sending = s.link.sending
  intake : t.link.intake.length ≤ s.link.intake.length

theorem LinkServing.trans {s t u : State} (h : LinkServing s t) (k : LinkServing t u) : LinkServing s u :=
  ⟨k.whole, k.linkOn.trans h.linkOn, k.hrdy.trans h.hrdy, k.sending.trans h.sending, k.intake.trans h.intake⟩

/-- The reply of an answered request goes into a free slot. -/
theorem LinkAnswered.serving {s t : State} (h : LinkAnswered s t) (f : Frame) (w : LinkWhole s)
    (slot : s.link.replies.length < 4) : LinkServing s (placeReply f t) := by
  obtain ⟨receiver, counters, intake, replies, quiet⟩ := w
  obtain ⟨vdd, rstn, hrdy, link⟩ := h
  have on : (placeReply f t).linkOn = s.linkOn := by
    unfold State.linkOn
    rw [placeReply_vdd, placeReply_rstnAsserted, vdd, rstn]
  have full : ∀ r : List Frame, r.length < 4 → (r ++ [f]).length ≤ 4 := by
    intro r less
    rw [List.length_append, List.length_singleton]
    omega
  obtain same | cleared | ⟨k, rate, scope, started⟩ := link
  · refine ⟨⟨?_, ?_, ?_, ?_, ?_⟩, on, hrdy, ?_, ?_⟩
    all_goals simp only [placeReply_link, on, same]
    · exact receiver
    · exact counters
    · exact intake
    · exact full _ slot
    · exact quiet
    · exact le_rfl
  · refine ⟨⟨?_, ?_, ?_, ?_, ?_⟩, on, hrdy, ?_, ?_⟩
    all_goals simp only [placeReply_link, on, cleared]
    · exact receiver
    · rfl
    · exact intake
    · exact full _ slot
    · exact quiet
    · exact le_rfl
  · refine ⟨⟨?_, ?_, ?_, ?_, ?_⟩, on, hrdy, ?_, ?_⟩
    all_goals
      simp only [placeReply_link, on, started]
      obtain rfl | rfl := scope
    · rfl
    · rfl
    · exact counters
    · rfl
    · exact Nat.zero_le _
    · exact Nat.zero_le _
    · exact full [] (by decide)
    · exact full [] (by decide)
    · exact quiet
    · exact quiet
    · rfl
    · rfl
    · exact Nat.zero_le _
    · exact Nat.zero_le _

theorem serving_serveFrame (f : Frame) {s : State} (w : LinkWhole s) (slot : s.link.replies.length < 4) :
    LinkServing s (serveFrame f s) := by
  unfold serveFrame
  split
  · exact (linkAnswered_answerRequest _ f.body s).serving _ w slot
  · exact (LinkSide.refl s).answered.serving _ w slot

/-- A waiting frame leaves the intake queue. -/
theorem LinkWhole.pop {s : State} {f : Frame} {rest : List Frame} (w : LinkWhole s) (waiting : s.link.intake = f :: rest) :
    LinkServing s { s with link := { s.link with intake := rest } } := by
  obtain ⟨receiver, counters, intake, replies, quiet⟩ := w
  rw [waiting, List.length_cons] at intake
  refine ⟨⟨receiver, counters, ?_, replies, quiet⟩, rfl, rfl, rfl, ?_⟩
  · exact Nat.le_of_succ_le intake
  · rw [waiting]
    exact Nat.le_succ _

/-- The interpreter takes frames until none waits or no slot is free. -/
theorem interpret_spec (fuel : Nat) {s : State} (w : LinkWhole s) (enough : s.link.intake.length ≤ fuel) :
    LinkServing s (interpret fuel s) ∧
      ((interpret fuel s).link.intake = [] ∨ (interpret fuel s).link.replies.length = 4) := by
  have here : LinkServing s s := ⟨w, rfl, rfl, rfl, le_rfl⟩
  induction fuel generalizing s with
  | zero => exact ⟨here, .inl (List.eq_nil_of_length_eq_zero (Nat.le_zero.mp enough))⟩
  | succ n ih =>
    unfold interpret
    split
    · rename_i f rest waiting
      split
      · rename_i slot
        have popped := w.pop waiting
        have served := serving_serveFrame f popped.whole slot
        have fewer : rest.length ≤ n := by
          rw [waiting, List.length_cons] at enough
          omega
        obtain ⟨more, done⟩ := ih served.whole (served.intake.trans fewer) ⟨served.whole, rfl, rfl, rfl, le_rfl⟩
        exact ⟨popped.trans (served.trans more), done⟩
      · rename_i full
        have least : ¬ s.link.replies.length < 4 := full
        exact ⟨here, .inr (le_antisymm w.replies (Nat.not_lt.mp least))⟩
    · rename_i none
      exact ⟨here, .inl none⟩

/-! ### The transmitter, and the link served (R175) -/

/-- The transmitter's decision keeps the bounds while the link is on. -/
theorem transmit_whole {s : State} (w : LinkWhole s) (on : s.linkOn = true) : LinkWhole (transmit s) := by
  obtain ⟨receiver, counters, intake, replies, quiet⟩ := w
  have notOff : ∀ p : Prop, s.linkOn = false → p := fun p off => by rw [on] at off; cases off
  unfold transmit
  repeat' split
  · rename_i f rest queued
    rw [queued] at replies
    exact ⟨receiver, counters, intake, Nat.le_of_succ_le replies, notOff _⟩
  · exact ⟨receiver, counters, intake, replies, notOff _⟩
  · exact ⟨receiver, counters, intake, replies, quiet⟩
  · exact ⟨receiver, counters, intake, replies, quiet⟩

@[simp] theorem transmit_linkOn (s : State) : (transmit s).linkOn = s.linkOn := by
  unfold transmit
  repeat' split
  all_goals rfl

/-- A transmitter that may still send after its decision had nothing to send. -/
theorem transmit_of_mayTransmit {s : State} (may : (transmit s).mayTransmit = true) :
    transmit s = s ∧ s.link.replies = [] ∧ s.notices.eligible = none := by
  unfold transmit at may ⊢
  split at may
  · rename_i now
    rw [if_pos now]
    split at may
    · simp [State.mayTransmit] at may
    · rename_i noReply
      split at may
      · simp [State.mayTransmit] at may
      · rename_i noNotice
        simp only [noReply, noNotice, and_self]
  · rename_i not
    exact absurd may not

/-- Serving a link within its bounds leaves it served. -/
theorem serveLink_linkOk {s : State} (w : LinkWhole s) : (serveLink s).linkOk = true := by
  rw [linkOk_iff]
  by_cases on : s.linkOn = true
  · obtain ⟨first, done⟩ := interpret_spec s.link.intake.length w le_rfl
    have on1 : (interpret s.link.intake.length s).linkOn = true := first.linkOn.trans on
    have sent := transmit_whole first.whole on1
    obtain ⟨second, taken⟩ := interpret_spec _ sent le_rfl
    unfold serveLink
    rw [if_pos on]
    refine ⟨second.whole, fun _ => ⟨taken, fun may => ?_⟩⟩
    have before : (transmit (interpret s.link.intake.length s)).mayTransmit = true := by
      unfold State.mayTransmit at may ⊢
      rw [second.hrdy, second.sending] at may
      exact may
    obtain ⟨same, noReply, noNotice⟩ := transmit_of_mayTransmit before
    have noFrame : (interpret s.link.intake.length s).link.intake = [] := by
      obtain none | full := done
      · exact none
      · rw [noReply] at full
        cases full
    dsimp only
    rw [same, interpret_empty _ _ noFrame]
    exact ⟨noReply, noNotice⟩
  · have off : s.linkOn = false := Bool.eq_false_iff.mpr on
    rw [serveLink_off s off]
    exact ⟨w, fun k => absurd k on⟩

end Sys2Proof.Machine
end

section
/-! SUPPORT. The host link through every command: the receiver and the queues keep their bounds, and each command leaves a served
link served. -/

namespace Sys2Proof.Machine

/-! ### What a command does to the link -/

/-- With the link off only its bounds count. -/
theorem linkOk_of_off {s : State} (off : s.linkOn = false) : s.linkOk = true ↔ LinkWhole s := by
  rw [linkOk_iff, off]
  simp

theorem linkOn_of_unpowered {s : State} (off : s.vdd = false) : s.linkOn = false := by
  unfold State.linkOn
  rw [off]
  rfl

/-- From s to t the link keeps its bounds, and a served link is served again. -/
structure LinkServed (s t : State) : Prop where
  whole : LinkWhole s → LinkWhole t
  served : s.linkOk = true → t.linkOk = true

namespace LinkServed

theorem refl (s : State) : LinkServed s s := ⟨id, id⟩

theorem trans {s t u : State} (h : LinkServed s t) (k : LinkServed t u) : LinkServed s u :=
  ⟨k.whole ∘ h.whole, k.served ∘ h.served⟩

/-- A change that keeps the bounds, after which the link is served. -/
theorem of_serveLink {s t : State} (whole : LinkWhole s → LinkWhole t) : LinkServed s (serveLink t) := by
  have served : LinkWhole s → (serveLink t).linkOk = true := fun w => serveLink_linkOk (whole w)
  exact ⟨fun w => ((linkOk_iff _).mp (served w)).1, fun ok => served ((linkOk_iff s).mp ok).1⟩

/-- A change that keeps the bounds and leaves the link off. -/
theorem of_off {s t : State} (whole : LinkWhole s → LinkWhole t) (off : t.linkOn = false) : LinkServed s t :=
  ⟨whole, fun ok => (linkOk_of_off off).mpr (whole ((linkOk_iff s).mp ok).1)⟩

/-- A change of levels that switch nothing. -/
theorem of_linkSide {s t : State} (side : LinkSide s t) (notices : t.notices = s.notices) : LinkServed s t :=
  ⟨side.whole, side.linkOk notices⟩

end LinkServed

theorem linkServed_withPins (p : Pins) (s : State) : LinkServed s (withPins p s) := .of_linkSide ⟨rfl, rfl, rfl, rfl⟩ rfl

theorem linkServed_withLrdy (held : Bool) (s : State) : LinkServed s (withLrdy held s) := .of_linkSide ⟨rfl, rfl, rfl, rfl⟩ rfl

theorem linkServed_requestLevels (k : RequestKind) (p : Pins) (s : State) : LinkServed s (requestLevels k p s) := by
  cases k
  case resetPart => exact linkServed_withPins p s
  case busSend => exact linkServed_withLrdy _ s
  case busCancel => exact linkServed_withLrdy _ s
  case busResume => exact linkServed_withLrdy _ s
  case refAnswer => exact linkServed_withLrdy _ s
  all_goals exact .refl s

/-- An event of the main side that leaves the link within its bounds. -/
theorem linkServed_mainEvent {act : State → State} {s : State} (whole : LinkWhole s → LinkWhole (act s)) :
    LinkServed s (mainEvent act s) := by
  unfold mainEvent
  split
  · exact .of_serveLink whole
  · exact .refl s

/-- An event of the line side that finds LRDY at a level. -/
theorem linkServed_lineEvent {act : State → State} (held : Bool) (s : State) (side : ∀ u, LineSide u (act u)) :
    LinkServed s (mainEvent act (withLrdy held s)) :=
  (linkServed_withLrdy held s).trans (linkServed_mainEvent (side _).linkSide.whole)

/-! ### The receiver (R168 to R170) -/

/-- A count that goes up by 1 stays within 16 bits. -/
theorem bump_le_max (n : Nat) : bump n ≤ 65535 := by
  unfold bump sat
  split <;> omega

theorem LinkCounters.ok_iff (c : LinkCounters) :
    c.ok = true ↔ c.stray ≤ 65535 ∧ c.gap ≤ 65535 ∧ c.length ≤ 65535 ∧ c.check ≤ 65535 ∧ c.overflow ≤ 65535 := by
  simp [LinkCounters.ok]

/-- The receiver goes on in another state of the framer, and the queues stay. -/
theorem LinkWhole.receiver_moves {s : State} (w : LinkWhole s) (l : HostLink) (receiver : l.receiverOk = true)
    (counters : l.counters.ok = true) (intake : l.intake = s.link.intake) (replies : l.replies = s.link.replies)
    (sending : l.sending = s.link.sending) : LinkWhole { s with link := l } := by
  refine ⟨receiver, counters, ?_, ?_, ?_⟩
  · rw [intake]
    exact w.intake
  · rw [replies]
    exact w.replies
  · rw [sending]
    exact w.quiet

theorem whole_toHunt {s : State} (w : LinkWhole s) : LinkWhole (toHunt s) :=
  w.receiver_moves _ rfl w.counters rfl rfl rfl

/-- The receiver counts an event and returns to HUNT. -/
theorem whole_toHunt_countLink {s : State} (f : LinkCounters → LinkCounters) (w : LinkWhole s)
    (counters : (f s.link.counters).ok = true) : LinkWhole (toHunt (countLink f s)) :=
  w.receiver_moves _ rfl counters rfl rfl rfl

theorem whole_placeFrame (f : Frame) {s : State} (w : LinkWhole s) : LinkWhole (placeFrame f s) := by
  unfold placeFrame
  split
  · rename_i free
    have less : s.link.intake.length < 4 := free
    have longer : (s.link.intake ++ [f]).length ≤ 4 := by
      rw [List.length_append, List.length_singleton]
      omega
    exact ⟨w.receiver, w.counters, longer, w.replies, w.quiet⟩
  · have counters : ({ s.link.counters with overflow := bump s.link.counters.overflow } : LinkCounters).ok = true := by
      obtain ⟨stray, gap, length, check, -⟩ := (LinkCounters.ok_iff _).mp w.counters
      exact (LinkCounters.ok_iff _).mpr ⟨stray, gap, length, check, bump_le_max _⟩
    exact ⟨w.receiver, counters, w.intake, w.replies, w.quiet⟩

theorem whole_receiveByte (b : Byte) {s : State} (w : LinkWhole s) : LinkWhole (receiveByte b s) := by
  obtain ⟨stray, gap, length, check, overflow⟩ := (LinkCounters.ok_iff _).mp w.counters
  have fields := w.receiver
  unfold HostLink.receiverOk at fields
  unfold receiveByte
  split
  · rename_i hunt
    split
    · exact w.receiver_moves _ rfl w.counters rfl rfl rfl
    · refine w.receiver_moves _ w.receiver ?_ rfl rfl rfl
      exact (LinkCounters.ok_iff _).mpr ⟨bump_le_max _, gap, length, check, overflow⟩
  · rename_i atLength
    rw [atLength] at fields
    split
    · rename_i range
      obtain ⟨low, high⟩ := range
      refine w.receiver_moves _ ?_ w.counters rfl rfl rfl
      simp only [Bool.and_eq_true, beq_iff_eq, List.isEmpty_iff] at fields
      obtain ⟨⟨-, empty⟩, -⟩ := fields
      have some : 0 < b.toNat := by omega
      simp [HostLink.receiverOk, empty, low, high, some]
    · refine whole_toHunt_countLink _ w ?_
      exact (LinkCounters.ok_iff _).mpr ⟨stray, gap, bump_le_max _, check, overflow⟩
  · rename_i payload
    rw [payload] at fields
    simp only [Bool.and_eq_true, decide_eq_true_eq, beq_iff_eq] at fields
    obtain ⟨⟨low, high, less⟩, -⟩ := fields
    refine w.receiver_moves _ ?_ w.counters rfl rfl rfl
    unfold HostLink.receiverOk
    by_cases last : s.link.assembly.length + 1 = s.link.expected
    · simp [last, low, high]
    · have more : s.link.assembly.length + 1 < s.link.expected := by omega
      simp [last, low, high, more]
  · split
    · split
      · exact whole_placeFrame _ (whole_toHunt w)
      · exact whole_toHunt w
    · refine whole_toHunt_countLink _ w ?_
      exact (LinkCounters.ok_iff _).mpr ⟨stray, gap, length, bump_le_max _, overflow⟩

theorem whole_gapExpiry {s : State} (w : LinkWhole s) : LinkWhole (gapExpiry s) := by
  obtain ⟨stray, gap, length, check, overflow⟩ := (LinkCounters.ok_iff _).mp w.counters
  unfold gapExpiry
  split
  · refine whole_toHunt_countLink _ w ?_
    exact (LinkCounters.ok_iff _).mpr ⟨stray, bump_le_max _, length, check, overflow⟩
  · exact w

/-- A good frame that comes while the link is off is not taken; else the link is served after it. -/
theorem linkServed_goodFrame (f : Frame) (s : State) : LinkServed s (goodFrame f s) := by
  unfold goodFrame
  split
  · exact .of_serveLink (whole_placeFrame f)
  · exact .refl s

/-! ### Supplies, RSTn and HRDY -/

/-- A start empties the link; a frame on HTXD stays at SOFT and CLEAR alone. -/
theorem whole_started {s t : State} (k : StartKind) (rate : HostRate) (w : LinkWhole s)
    (link : t.link = s.link.started k rate) (ends : k = .cold ∨ k = .warm ∨ k = .pin) : LinkWhole t := by
  have counters := w.counters
  obtain rfl | rfl | rfl := ends <;> constructor <;> rw [link]
  case inr.inr.counters => exact counters
  case inl.quiet => exact fun _ => rfl
  case inr.inl.quiet => exact fun _ => rfl
  case inr.inr.quiet => exact fun _ => rfl
  case inl.intake => exact Nat.zero_le _
  case inr.inl.intake => exact Nat.zero_le _
  case inr.inr.intake => exact Nat.zero_le _
  case inl.replies => exact Nat.zero_le _
  case inr.inl.replies => exact Nat.zero_le _
  case inr.inr.replies => exact Nat.zero_le _
  all_goals rfl

theorem linkServed_powerUp (pins : Pins) (s : State) :
    LinkServed s (if (withPins pins s).vdd then withPins pins s else serveLink (powerStart (withPins pins s))) := by
  refine (linkServed_withPins pins s).trans ?_
  split
  · exact .refl _
  · refine .of_serveLink fun w => whole_started _ _ w (start_link _ _) ?_
    split
    · exact .inr (.inl rfl)
    · exact .inl rfl

theorem linkServed_powerLoss (s : State) : LinkServed s (if s.vdd then { mainLost s with vdd := false } else s) := by
  split
  · exact .of_off (fun w => whole_started .warm _ w rfl (.inr (.inl rfl))) rfl
  · exact .refl s

/-- The frame on HTXD ends, whatever the level of RSTn. -/
theorem whole_endFrame {s : State} (asserted : Bool) (w : LinkWhole s) : LinkWhole { endFrame s with rstnAsserted := asserted } :=
  ⟨w.receiver, w.counters, w.intake, w.replies, fun _ => rfl⟩

theorem linkServed_rstnAsserted (s : State) : LinkServed s { endFrame s with rstnAsserted := true } := by
  refine .of_off (whole_endFrame true) ?_
  unfold State.linkOn
  simp

theorem linkServed_pinStart (pins : Pins) (s : State) :
    LinkServed s (if ({ withPins pins s with rstnAsserted := false } : State).vdd then
      serveLink (start .pin { withPins pins s with rstnAsserted := false }) else { withPins pins s with rstnAsserted := false }) := by
  split
  · refine .of_serveLink fun w => ?_
    have released : (start .pin { withPins pins s with rstnAsserted := false }).link =
      s.link.started .pin (strapRate pins.hbr1 pins.hbr0) := start_link _ _
    exact whole_started .pin _ w released (.inr (.inr rfl))
  · rename_i off
    have unpowered : s.vdd = false := Bool.eq_false_iff.mpr off
    refine .of_off (fun w => ?_) (linkOn_of_unpowered unpowered)
    exact ⟨w.receiver, w.counters, w.intake, w.replies, fun _ => w.quiet (linkOn_of_unpowered unpowered)⟩

theorem linkServed_hrdyAsserted (pins : Pins) (s : State) :
    LinkServed s (serveLink { withPins pins s with hrdy := true }) :=
  .of_serveLink fun w => ⟨w.receiver, w.counters, w.intake, w.replies, w.quiet⟩

/-- With HRDY low the transmitter may begin nothing. -/
theorem linkServed_hrdyDeasserted (s : State) : LinkServed s { s with hrdy := false } := by
  have whole : LinkWhole s → LinkWhole { s with hrdy := false } := fun w => ⟨w.receiver, w.counters, w.intake, w.replies, w.quiet⟩
  refine ⟨whole, fun ok => ?_⟩
  obtain ⟨w, idle⟩ := (linkOk_iff s).mp ok
  refine (linkOk_iff _).mpr ⟨whole w, fun on => ⟨(idle on).taken, fun may => ?_⟩⟩
  cases may

theorem linkServed_transmitFrameEnd (pins : Pins) (s : State) :
    LinkServed s (if (withPins pins s).link.sending.isSome then mainEvent endFrame (withPins pins s) else withPins pins s) := by
  refine (linkServed_withPins pins s).trans ?_
  split
  · exact linkServed_mainEvent (whole_endFrame _)
  · exact .refl _

/-! ### The calendar's events -/

/-- A change of the calendar record, and with VDD of the notices, leaves the link's side; without VDD the link is off. -/
theorem linkServed_calEventStep {act : State → State} {s : State} (side : LinkSide s (act s)) :
    LinkServed s (calEventStep act s) := by
  unfold calEventStep
  repeat' split
  · exact .of_serveLink side.whole
  · rename_i off
    have unpowered : (act s).vdd = false := side.vdd.trans (Bool.eq_false_iff.mpr off)
    exact .of_off side.whole (linkOn_of_unpowered unpowered)
  · exact .refl s

theorem linkSide_tick (s : State) : LinkSide s (tick s) := by
  unfold tick
  dsimp only
  repeat' split
  all_goals exact ⟨rfl, rfl, rfl, rfl⟩

theorem linkSide_oscillatorEdge (s : State) : LinkSide s (oscillatorEdge s) := by
  unfold oscillatorEdge
  dsimp only
  repeat' split
  · exact ⟨rfl, rfl, rfl, rfl⟩
  · exact ⟨rfl, rfl, rfl, rfl⟩
  · have judged : LinkSide s (judgeEdge s) := ⟨rfl, rfl, rfl, rfl⟩
    unfold countPeriod
    split
    · exact judged.trans (linkSide_tick _)
    · exact ⟨rfl, rfl, rfl, rfl⟩
  · exact ⟨rfl, rfl, rfl, rfl⟩

theorem linkSide_settle (s : State) : LinkSide s (settle s) := by
  unfold settle
  split <;> exact ⟨rfl, rfl, rfl, rfl⟩

theorem linkSide_oscLoss (s : State) : LinkSide s (oscLoss s) := by
  unfold oscLoss loseOscillator
  dsimp only
  repeat' split
  all_goals exact ⟨rfl, rfl, rfl, rfl⟩

/-! ### The line's events -/

theorem lineSide_onExchange {act : Exchange → State → State} (h : ∀ x u, LineSide u (act x u)) (s : State) :
    LineSide s (onExchange act s) := by
  unfold onExchange
  split
  · exact h _ s
  · exact .refl s

theorem lineSide_lineStuckExpiry (x : Exchange) (s : State) : LineSide s (lineStuckExpiry x s) := by
  unfold lineStuckExpiry
  split
  · exact lineSide_endExchange x _ s
  · exact .refl s

theorem lineSide_readyTimerExpiry (x : Exchange) (s : State) : LineSide s (readyTimerExpiry x s) := by
  unfold readyTimerExpiry
  repeat' split
  · exact lineSide_endExchange x _ s
  · exact lineSide_endExchange x _ s
  all_goals exact .refl s

theorem lineSide_frameByteSent (x : Exchange) (s : State) : LineSide s (frameByteSent x s) := by
  unfold frameByteSent
  dsimp only
  repeat' split
  · exact lineSide_engineSet s _
  · exact lineSide_engineSet s _
  · exact lineSide_endExchange _ _ s
  · exact .refl s

theorem lineSide_turnHoldExpiry (x : Exchange) (s : State) : LineSide s (turnHoldExpiry x s) := by
  unfold turnHoldExpiry
  repeat' split
  · exact lineSide_engineSet s _
  · exact lineSide_endExchange x _ s
  · exact .refl s

theorem lineSide_replyWindowExpiry (x : Exchange) (s : State) : LineSide s (replyWindowExpiry x s) := by
  unfold replyWindowExpiry
  split
  · exact lineSide_endExchange x _ s
  · exact .refl s

theorem lineSide_replyByteReceived (b : Byte) (x : Exchange) (s : State) : LineSide s (replyByteReceived b x s) := by
  unfold replyByteReceived
  repeat' split
  · exact lineSide_endExchange x _ s
  · exact lineSide_engineSet s _
  · exact lineSide_endExchange x _ s
  · exact .refl s

theorem lineSide_nextAttempt (s : State) : LineSide s (nextAttempt s) := by
  unfold nextAttempt
  split
  · exact lineSide_beginAttempt _ s
  · exact .refl s

theorem lineSide_lineRestExpiry (s : State) : LineSide s (lineRestExpiry s) := by
  unfold lineRestExpiry
  split
  · exact lineSide_nextAttempt s
  · exact .refl s

theorem lineSide_busyBackoffExpiry (s : State) : LineSide s (busyBackoffExpiry s) := by
  unfold busyBackoffExpiry
  split
  · exact lineSide_nextAttempt s
  · exact .refl s

theorem lineSide_holdTimerExpiry (s : State) : LineSide s (holdTimerExpiry s) := by
  unfold holdTimerExpiry
  split
  · exact (lineSide_engineSet s _).trans (lineSide_closeReferral _ _ _ (countHoldTimeout s))
  · exact .refl s

theorem lineSide_takeNextReport (s : State) : LineSide s (takeNextReport s) := by
  unfold takeNextReport
  split
  · rename_i c rest _
    have popped : LineSide s { s with reports := rest } := by constructor <;> rfl
    exact popped.trans (lineSide_takeReport c _)
  · exact .refl s

/-! ### Every command (Table 10-5, R135) -/

/-- What every outcome of r that is a state does to the link. -/
def ServesLink (s : State) (r : Result) : Prop := ∀ t, r = .next t → LinkServed s t

theorem LinkServed.serves {s t : State} (h : LinkServed s t) : ServesLink s (.next t) := by
  intro u same
  cases same
  exact h

section
variable (s : State)

theorem serves_lineEvent {act : State → State} (held : Bool) (side : ∀ u, LineSide u (act u)) :
    ServesLink s (.next (mainEvent act (withLrdy held s))) :=
  (linkServed_lineEvent held s side).serves

theorem serves_latn {act : State → State} (held : Bool) (side : ∀ u, LineSide u (act u)) :
    ServesLink s (.next (mainEvent act { s with latnHeld := held })) := by
  have level : LinkServed s { s with latnHeld := held } := .of_linkSide ⟨rfl, rfl, rfl, rfl⟩ rfl
  exact (level.trans (linkServed_mainEvent (side _).linkSide.whole)).serves

theorem linkServed_cancelDecided (tag : Byte) (body : List Byte) : LinkServed s (cancelDecided tag body s) := by
  have cancel : LinkServed s (hostRequest .busCancel tag body s) := linkServed_goodFrame _ s
  unfold cancelDecided
  dsimp only
  split
  · exact cancel.trans (linkServed_mainEvent (lineSide_takeDecided _).linkSide.whole)
  · exact cancel

theorem serves_execBetween (e : BetweenEvent) : ServesLink s (execBetween e s) := by
  cases e
  case take held => exact serves_lineEvent s held lineSide_decideGrant
  case cancelDecided tag body held => exact ((linkServed_withLrdy held s).trans (linkServed_cancelDecided _ tag body)).serves
  case request k tag body pins => exact ((linkServed_requestLevels k pins s).trans (linkServed_goodFrame _ _)).serves
  case unknownKind kind tag body => exact (linkServed_goodFrame _ s).serves
  case hrdyAsserted pins => exact (linkServed_hrdyAsserted pins s).serves
  case hrdyDeasserted => exact (linkServed_hrdyDeasserted s).serves
  case transmitFrameEnd pins => exact (linkServed_transmitFrameEnd pins s).serves
  case oscillatorEdge => exact (linkServed_calEventStep (linkSide_oscillatorEdge s)).serves
  case settleTimerExpiry => exact (linkServed_calEventStep (linkSide_settle s)).serves
  case oscLoss => exact (linkServed_calEventStep (linkSide_oscLoss s)).serves
  case tick =>
    refine (linkServed_calEventStep ?_).serves
    split
    · exact linkSide_tick s
    · exact .refl s
  case lrdyReleased => exact serves_lineEvent s false (lineSide_onExchange fun _ u => lineSide_engineSet u _)
  case lineStuckExpiry => exact (linkServed_mainEvent (lineSide_onExchange lineSide_lineStuckExpiry s).linkSide.whole).serves
  case readyTimerExpiry held => exact serves_lineEvent s held (lineSide_onExchange lineSide_readyTimerExpiry)
  case frameByteSent held => exact serves_lineEvent s held (lineSide_onExchange lineSide_frameByteSent)
  case turnHoldExpiry held => exact serves_lineEvent s held (lineSide_onExchange lineSide_turnHoldExpiry)
  case replyWindowExpiry held => exact serves_lineEvent s held (lineSide_onExchange lineSide_replyWindowExpiry)
  case replyByteReceived b held => exact serves_lineEvent s held (lineSide_onExchange (lineSide_replyByteReceived b))
  case lineRestExpiry held => exact serves_lineEvent s held lineSide_lineRestExpiry
  case busyBackoffExpiry held => exact serves_lineEvent s held lineSide_busyBackoffExpiry
  case holdTimerExpiry held => exact serves_lineEvent s held lineSide_holdTimerExpiry
  case latnHeld => exact serves_latn s true lineSide_pollTest
  case latnReleased => exact serves_latn s false lineSide_latnReleased
  case pollHoldoffExpiry => exact (linkServed_mainEvent (lineSide_pollHoldoffExpiry s).linkSide.whole).serves
  case pollRequestPresented held => exact serves_lineEvent s held lineSide_requestPresented

theorem linkServed_afterBetween (e : BetweenEvent) : LinkServed s (afterBetween e s) := by
  obtain same | ⟨taken, -⟩ := afterBetween_cases e s
  · rw [same]
    exact .refl s
  · exact serves_execBetween s e _ taken

end

theorem whole_takeBetween (between : List Between) (i : Nat) {s : State} (w : LinkWhole s) :
    LinkWhole (takeBetween between i s) := by
  induction between generalizing s with
  | nil => exact w
  | cons b rest ih =>
    rw [takeBetween_cons]
    split
    · exact ih ((linkServed_afterBetween s b.event).whole w)
    · exact ih w

theorem whole_scanEntries (ev : SecondBoundary) (between : List Between) (l : List Nat) {s : State} (w : LinkWhole s) :
    LinkWhole (scanEntries ev between l s) := by
  induction l generalizing s with
  | nil => exact w
  | cons i later ih =>
    unfold scanEntries
    refine ih (whole_takeBetween between i ?_)
    split
    · exact (lineSide_fireEntry ev i s).linkSide.whole w
    · exact w

/-- The scan keeps the bounds, and the evaluation ends with the link served. -/
theorem linkServed_scheduleEvaluation (held : Bool) (between : List Between) (s : State) :
    LinkServed s (mainEvent (evaluateNext between) (withLrdy held s)) := by
  refine (linkServed_withLrdy held s).trans (linkServed_mainEvent fun w => ?_)
  unfold evaluateNext
  split
  · exact (lineSide_decideGrant _).linkSide.whole (whole_scanEntries _ between _ ⟨w.receiver, w.counters, w.intake, w.replies, w.quiet⟩)
  · exact w

theorem serves_request (k : RequestKind) (tag : Byte) (body : List Byte) (s : State) :
    ServesLink s (.next (hostRequest k tag body s)) := (linkServed_goodFrame _ s).serves

theorem serves_exec (c : Instr) (s : State) : ServesLink s (exec c s) := by
  cases c
  case resetPart tag body pins => exact ((linkServed_withPins pins s).trans (linkServed_goodFrame _ _)).serves
  case busSend tag body held => exact ((linkServed_withLrdy held s).trans (linkServed_goodFrame _ _)).serves
  case busCancel tag body held => exact ((linkServed_withLrdy held s).trans (linkServed_goodFrame _ _)).serves
  case busResume tag body held => exact ((linkServed_withLrdy held s).trans (linkServed_goodFrame _ _)).serves
  case refAnswer tag body held => exact ((linkServed_withLrdy held s).trans (linkServed_goodFrame _ _)).serves
  case unknownKind kind tag body => exact serves_execBetween s (.unknownKind kind tag body)
  case hostByteReceived b pins =>
    refine ((linkServed_withPins pins s).trans ?_).serves
    split
    · exact .of_serveLink (whole_receiveByte b)
    · exact .refl _
  case gapTimerExpiry =>
    refine LinkServed.serves ?_
    split
    · exact .of_serveLink whole_gapExpiry
    · exact .refl s
  case hrdyAsserted pins => exact serves_execBetween s (.hrdyAsserted pins)
  case hrdyDeasserted => exact serves_execBetween s .hrdyDeasserted
  case transmitFrameEnd pins => exact serves_execBetween s (.transmitFrameEnd pins)
  case powerUp pins => exact (linkServed_powerUp pins s).serves
  case powerLoss => exact (linkServed_powerLoss s).serves
  case backupLoss =>
    refine LinkServed.serves ?_
    split
    · exact .refl s
    · exact .of_linkSide ⟨rfl, rfl, rfl, rfl⟩ rfl
  case rstnAsserted => exact (linkServed_rstnAsserted s).serves
  case pinStart pins => exact (linkServed_pinStart pins s).serves
  case oscillatorEdge => exact serves_execBetween s .oscillatorEdge
  case settleTimerExpiry => exact serves_execBetween s .settleTimerExpiry
  case oscLoss => exact serves_execBetween s .oscLoss
  case tick => exact serves_execBetween s .tick
  case scheduleEvaluation held between => exact (linkServed_scheduleEvaluation held between s).serves
  case completionReport => exact (linkServed_mainEvent (lineSide_takeNextReport s).linkSide.whole).serves
  case lrdyReleased => exact serves_execBetween s .lrdyReleased
  case lineStuckExpiry => exact serves_execBetween s .lineStuckExpiry
  case readyTimerExpiry held => exact serves_execBetween s (.readyTimerExpiry held)
  case frameByteSent held => exact serves_execBetween s (.frameByteSent held)
  case turnHoldExpiry held => exact serves_execBetween s (.turnHoldExpiry held)
  case replyWindowExpiry held => exact serves_execBetween s (.replyWindowExpiry held)
  case replyByteReceived b held => exact serves_execBetween s (.replyByteReceived b held)
  case lineRestExpiry held => exact serves_execBetween s (.lineRestExpiry held)
  case busyBackoffExpiry held => exact serves_execBetween s (.busyBackoffExpiry held)
  case holdTimerExpiry held => exact serves_execBetween s (.holdTimerExpiry held)
  case latnHeld => exact serves_execBetween s .latnHeld
  case latnReleased => exact serves_execBetween s .latnReleased
  case pollHoldoffExpiry => exact serves_execBetween s .pollHoldoffExpiry
  case pollRequestPresented held => exact serves_execBetween s (.pollRequestPresented held)
  all_goals exact serves_request _ _ _ s

/-- Settles O6: every command keeps the bounds of the link, and serves it where it may have given it something to do. -/
theorem linkStaysServed : Obligations.LinkStaysServed := by
  intro s t ok next
  unfold step at next
  split at next
  · rename_i c rest _
    have taken : LinkServed s { s with pending := rest } := .of_linkSide ⟨rfl, rfl, rfl, rfl⟩ rfl
    exact (taken.trans (serves_exec c _ t next)).served ok
  · cases next
    exact ok

end Sys2Proof.Machine
end

section
/-! SUPPORT. The Line Engine record in a step: the four stages of an engine in order, what each operation makes of them, and that
every act leads from one stage to another. -/

namespace Sys2Proof.Machine

/-! ### The stages of an engine in order (R43 to R45, R56, R58) -/

/-- Configuration, counters and the referral id counter are in their ranges. -/
structure LineEngine.InBounds (e : LineEngine) : Prop where
  config : e.config.ok = true
  counters : e.counters.ok = true
  nextId : 1 ≤ e.nextReferralId ∧ e.nextReferralId ≤ 255

/-- Nothing of a piece of work is left. -/
structure LineEngine.Cleared (e : LineEngine) : Prop where
  work : e.work = none
  station : e.station = none
  attempts : e.attempts = 0
  lastReply : e.lastReply = none
  wait : e.wait = none
  exchange : e.exchange = none
  referral : e.referral = none
  closing : e.closing = none

/-- The engine has the work w with its station and attempts. -/
structure LineEngine.Works (e : LineEngine) (w : Work) : Prop where
  work : e.work = some w
  station : e.station = w.station?
  attempts : w.attemptsOk e.attempts = true

/-- ACTIVE with exchange x of the work w (R44). -/
structure LineEngine.Runs (e : LineEngine) (w : Work) (x : Exchange) : Prop extends e.Works w where
  state : e.state = .active
  referral : e.referral = none
  exchange : e.exchange = some x
  wait : e.wait = none
  kind : x.kindOk w e.closing = true
  phase : x.phaseOk = true
  reply : x.replyExpected = (x.kind != .deny && e.station.isSome)
  closed : e.closing = none ∨ e.station.isSome = true

/-- ACTIVE between two attempts of the transaction t (R51). -/
structure LineEngine.Waits (e : LineEngine) (t : Transaction) : Prop extends e.Works (.transaction t) where
  state : e.state = .active
  referral : e.referral = none
  exchange : e.exchange = none
  wait : e.wait ≠ none
  closing : e.closing = none
  retries : e.attempts ≤ t.spec.retryLimit

/-- HELD with the referral r of the work w (R45, R84, R87). -/
structure LineEngine.Holds (e : LineEngine) (w : Work) (r : Referral) : Prop extends e.Works w where
  state : e.state = .held
  referral : e.referral = some r
  exchange : e.exchange = none
  wait : e.wait = none
  closing : e.closing = none
  asked : e.station = some r.station
  origin : r.origin = w.origin
  id : 1 ≤ r.id ∧ r.id ≤ 255

/-- The stage an engine in order is in. -/
inductive LineEngine.Stage (e : LineEngine) : Prop where
  | free (state : e.state = .idle ∨ e.state = .paused ∨ e.state = .fault) (cleared : e.Cleared) (go : e.pausePending = false)
  | runs (w : Work) (x : Exchange) (h : e.Runs w x)
  | waits (t : Transaction) (h : e.Waits t)
  | holds (w : Work) (r : Referral) (h : e.Holds w r)

theorem LineEngine.empty_iff (e : LineEngine) : e.empty = true ↔ e.Cleared ∧ e.pausePending = false := by
  unfold LineEngine.empty
  simp only [Bool.and_eq_true, Option.isNone_iff_eq_none, beq_iff_eq, Bool.not_eq_true']
  constructor
  · rintro ⟨⟨⟨⟨⟨⟨⟨⟨work, station⟩, attempts⟩, lastReply⟩, wait⟩, exchange⟩, referral⟩, closing⟩, go⟩
    exact ⟨⟨work, station, attempts, lastReply, wait, exchange, referral, closing⟩, go⟩
  · rintro ⟨⟨work, station, attempts, lastReply, wait, exchange, referral, closing⟩, go⟩
    exact ⟨⟨⟨⟨⟨⟨⟨⟨work, station⟩, attempts⟩, lastReply⟩, wait⟩, exchange⟩, referral⟩, closing⟩, go⟩

/-- ACTIVE in order is an exchange, or a wait of a transaction. -/
theorem LineEngine.activeOk_iff {e : LineEngine} {w : Work} (state : e.state = .active) (work : e.work = some w) :
    e.activeOk w = true ↔ (∃ x, e.Runs w x) ∨ ∃ t, w = .transaction t ∧ e.Waits t := by
  unfold LineEngine.activeOk
  simp only [Bool.and_eq_true, Option.isNone_iff_eq_none, beq_iff_eq]
  constructor
  · rintro ⟨⟨⟨referral, station⟩, attempts⟩, rest⟩
    split at rest
    · rename_i x exchange wait
      simp only [Bool.and_eq_true, beq_iff_eq, Bool.or_eq_true, Option.isNone_iff_eq_none] at rest
      obtain ⟨⟨⟨kind, phase⟩, reply⟩, closed⟩ := rest
      exact .inl ⟨x, ⟨work, station, attempts⟩, state, referral, exchange, wait, kind, phase, reply, closed⟩
    · rename_i y exchange wait
      obtain ⟨closing, retries⟩ := (Bool.and_eq_true _ _).mp rest
      split at retries
      · rename_i t
        exact .inr ⟨t, rfl, ⟨work, station, attempts⟩, state, referral, exchange, by simp [wait],
          Option.isNone_iff_eq_none.mp closing, of_decide_eq_true retries⟩
      · cases retries
    · cases rest
  · rintro (⟨x, h⟩ | ⟨t, rfl, h⟩)
    · refine ⟨⟨⟨h.referral, h.station⟩, h.attempts⟩, ?_⟩
      simp only [h.exchange, h.wait, h.kind, h.phase, h.reply, Bool.and_eq_true, beq_iff_eq, Bool.or_eq_true,
        Option.isNone_iff_eq_none, true_and]
      exact h.closed
    · refine ⟨⟨⟨h.referral, h.station⟩, h.attempts⟩, ?_⟩
      obtain ⟨y, wait⟩ := Option.ne_none_iff_exists'.mp h.wait
      simp only [h.exchange, wait, h.closing, Option.isNone_none, Bool.true_and, decide_eq_true_eq]
      exact h.retries

/-- HELD in order has a referral of its work. -/
theorem LineEngine.heldOk_iff {e : LineEngine} {w : Work} (state : e.state = .held) (work : e.work = some w) :
    e.heldOk w = true ↔ ∃ r, e.Holds w r := by
  unfold LineEngine.heldOk
  simp only [Bool.and_eq_true, Option.isNone_iff_eq_none, beq_iff_eq]
  constructor
  · rintro ⟨⟨⟨⟨⟨exchange, wait⟩, closing⟩, station⟩, attempts⟩, rest⟩
    split at rest
    · rename_i r referral
      simp only [Bool.and_eq_true, beq_iff_eq, decide_eq_true_eq] at rest
      obtain ⟨⟨asked, origin⟩, id⟩ := rest
      exact ⟨r, ⟨work, station, attempts⟩, state, referral, exchange, wait, closing, asked, origin, id⟩
    · cases rest
  · rintro ⟨r, h⟩
    refine ⟨⟨⟨⟨⟨h.exchange, h.wait⟩, h.closing⟩, h.station⟩, h.attempts⟩, ?_⟩
    simp only [h.referral, Bool.and_eq_true, beq_iff_eq, decide_eq_true_eq]
    exact ⟨⟨h.asked, h.origin⟩, h.id⟩

/-- The engine's invariant: its numbers in range, and one of the four stages. -/
theorem LineEngine.ok_iff (e : LineEngine) : e.ok = true ↔ e.InBounds ∧ e.Stage := by
  have bounds : e.InBounds ↔ (e.config.ok && e.counters.ok && decide (1 ≤ e.nextReferralId ∧ e.nextReferralId ≤ 255)) = true := by
    simp only [Bool.and_eq_true, decide_eq_true_eq]
    exact ⟨fun ⟨config, counters, nextId⟩ => ⟨⟨config, counters⟩, nextId⟩, fun ⟨⟨config, counters⟩, nextId⟩ => ⟨config, counters, nextId⟩⟩
  have free : e.state = .idle ∨ e.state = .paused ∨ e.state = .fault → (e.Stage ↔ e.empty = true) := by
    intro state
    rw [e.empty_iff]
    constructor
    · rintro (⟨-, cleared, go⟩ | ⟨w, x, h⟩ | ⟨t, h⟩ | ⟨w, r, h⟩)
      · exact ⟨cleared, go⟩
      · simp [h.state] at state
      · simp [h.state] at state
      · simp [h.state] at state
    · exact fun ⟨cleared, go⟩ => .free state cleared go
  unfold LineEngine.ok
  rw [Bool.and_eq_true, ← bounds]
  refine and_congr_right fun _ => ?_
  cases state : e.state with
  | idle => exact (free (.inl state)).symm
  | paused => exact (free (.inr (.inl state))).symm
  | fault => exact (free (.inr (.inr state))).symm
  | active =>
    simp only [Option.any_eq_true]
    constructor
    · rintro ⟨w, work, ok⟩
      obtain ⟨x, h⟩ | ⟨t, -, h⟩ := (activeOk_iff state work).mp ok
      · exact .runs w x h
      · exact .waits t h
    · rintro (⟨other, -, -⟩ | ⟨w, x, h⟩ | ⟨t, h⟩ | ⟨w, r, h⟩)
      · simp [state] at other
      · exact ⟨w, h.work, (activeOk_iff state h.work).mpr (.inl ⟨x, h⟩)⟩
      · exact ⟨_, h.work, (activeOk_iff state h.work).mpr (.inr ⟨t, rfl, h⟩)⟩
      · exact absurd (state.symm.trans h.state) (by decide)
  | held =>
    simp only [Option.any_eq_true]
    constructor
    · rintro ⟨w, work, ok⟩
      obtain ⟨r, h⟩ := (heldOk_iff state work).mp ok
      exact .holds w r h
    · rintro (⟨other, -, -⟩ | ⟨w, x, h⟩ | ⟨t, h⟩ | ⟨w, r, h⟩)
      · simp [state] at other
      · exact absurd (state.symm.trans h.state) (by decide)
      · exact absurd (state.symm.trans h.state) (by decide)
      · exact ⟨w, h.work, (heldOk_iff state h.work).mpr ⟨r, h⟩⟩

/-! ### The counters (R62) -/

theorem LineCounters.ok_iff (c : LineCounters) : c.ok = true ↔ c.exchanges ≤ 65535 ∧ c.retries ≤ 65535 ∧ c.noReady ≤ 65535 ∧
    c.noReply ≤ 65535 ∧ c.checkError ≤ 65535 ∧ c.nacks ≤ 65535 ∧ c.nestedQueries ≤ 65535 ∧ c.lineFaults ≤ 65535 ∧
    c.holdTimeouts ≤ 65535 ∧ c.phantomCycles ≤ 65535 := by
  simp [LineCounters.ok]

/-- The counters may change while they stay in range. -/
theorem LineEngine.InBounds.count {e : LineEngine} (h : e.InBounds) {c : LineCounters} (ok : c.ok = true) {f : LineEngine}
    (config : f.config = e.config) (counters : f.counters = c) (nextId : f.nextReferralId = e.nextReferralId) : f.InBounds := by
  refine ⟨?_, ?_, ?_⟩
  · rw [config]
    exact h.config
  · rw [counters]
    exact ok
  · rw [nextId]
    exact h.nextId

/-- A change outside configuration, counters and referral id counter. -/
theorem LineEngine.InBounds.same {e f : LineEngine} (h : e.InBounds) (config : f.config = e.config)
    (counters : f.counters = e.counters) (nextId : f.nextReferralId = e.nextReferralId) : f.InBounds :=
  h.count h.counters config counters nextId

theorem countResult_ok (k : ExchangeKind) (r : AttemptResult) {c : LineCounters} (ok : c.ok = true) :
    (countResult k r c).ok = true := by
  rw [LineCounters.ok_iff] at ok
  unfold countResult
  repeat' split
  all_goals
    rw [LineCounters.ok_iff]
    simp only [ok, bump_le, and_self]

theorem LineEngine.SameBut.inBounds {e f : LineEngine} (h : e.SameBut f) (b : e.InBounds) : f.InBounds := by
  obtain ⟨n, rfl, small⟩ := h
  have ok := (LineCounters.ok_iff _).mp b.counters
  refine b.count ((LineCounters.ok_iff _).mpr ?_) rfl rfl rfl
  simp only [ok, true_and]
  exact small (by simp only [ok])

theorem LineEngine.SameBut.ok {e f : LineEngine} (h : e.SameBut f) (ok : e.ok = true) : f.ok = true := by
  obtain ⟨b, stage⟩ := e.ok_iff.mp ok
  refine f.ok_iff.mpr ⟨h.inBounds b, ?_⟩
  obtain ⟨n, rfl, -⟩ := h
  obtain ⟨state, c, go⟩ | ⟨w, x, r⟩ | ⟨t, r⟩ | ⟨w, y, r⟩ := stage
  · exact .free state ⟨c.work, c.station, c.attempts, c.lastReply, c.wait, c.exchange, c.referral, c.closing⟩ go
  · exact .runs w x ⟨⟨r.work, r.station, r.attempts⟩, r.state, r.referral, r.exchange, r.wait, r.kind, r.phase, r.reply, r.closed⟩
  · exact .waits t ⟨⟨r.work, r.station, r.attempts⟩, r.state, r.referral, r.exchange, r.wait, r.closing, r.retries⟩
  · exact .holds w y ⟨⟨r.work, r.station, r.attempts⟩, r.state, r.referral, r.exchange, r.wait, r.closing, r.asked, r.origin, r.id⟩

theorem Told.engine_ok {s t : State} (h : Told s t) (ok : s.engine.ok = true) : t.engine.ok = true := h.engine.ok ok

/-! ### An exchange begins (R21, R27) -/

theorem LineFrame.bytes_pos (f : LineFrame) : 0 < f.bytes.length := by
  unfold LineFrame.bytes
  rw [List.length_append, List.length_singleton]
  exact Nat.succ_pos _

/-- The context an exchange begins with. -/
def Exchange.begun (k : ExchangeKind) (f : LineFrame) (reply held : Bool) (stuckMs : Nat) : Exchange :=
  { kind := k, frame := f, replyExpected := reply, phase := if held then .lineCheck else .send, bytesSent := 0, replySoFar := []
    lineStuck := if held then some stuckMs else none, ready := none, turnHold := none, replyWindow := none }

theorem begun_phaseOk (k : ExchangeKind) (f : LineFrame) (reply held : Bool) (stuckMs : Nat) :
    (Exchange.begun k f reply held stuckMs).phaseOk = true := by
  unfold Exchange.begun Exchange.phaseOk
  cases held
  · simp [f.bytes_pos]
  · rfl

theorem beginExchange_eq (k : ExchangeKind) (f : LineFrame) (reply : Bool) (s : State) :
    beginExchange k f reply s = { s with engine := { s.engine with
      counters := { s.engine.counters with exchanges := bump s.engine.counters.exchanges }
      exchange := some (.begun k f reply s.lrdyHeld s.engine.config.lineStuckMs) } } := rfl

/-- An exchange of the work begins in an ACTIVE engine without one. -/
theorem beginExchange_ok {k : ExchangeKind} {f : LineFrame} {reply : Bool} {s : State} {w : Work} (b : s.engine.InBounds)
    (h : s.engine.Works w) (state : s.engine.state = .active) (referral : s.engine.referral = none) (wait : s.engine.wait = none)
    (kind : (Exchange.begun k f reply s.lrdyHeld s.engine.config.lineStuckMs).kindOk w s.engine.closing = true)
    (expected : reply = (k != .deny && s.engine.station.isSome))
    (closed : s.engine.closing = none ∨ s.engine.station.isSome = true) : (beginExchange k f reply s).engine.ok = true := by
  have counters := (LineCounters.ok_iff _).mp b.counters
  rw [beginExchange_eq]
  refine (LineEngine.ok_iff _).mpr ⟨b.count (LineCounters.ok_iff _ |>.mpr ?_) rfl rfl rfl,
    .runs w (.begun k f reply s.lrdyHeld s.engine.config.lineStuckMs) ?_⟩
  · simp only [counters, bump_le, and_self]
  · exact ⟨⟨h.work, h.station, h.attempts⟩, state, referral, rfl, wait, kind, begun_phaseOk _ _ _ _ _, expected, closed⟩

theorem replies_eq (d : Destination) : d.replies = d.station?.isSome := by cases d <;> rfl

/-- The next attempt of a transaction that may have it (R49, R51). -/
theorem beginAttempt_ok {t : Transaction} {s : State} (b : s.engine.InBounds) (work : s.engine.work = some (.transaction t))
    (station : s.engine.station = t.spec.dest.station?) (state : s.engine.state = .active) (referral : s.engine.referral = none)
    (closing : s.engine.closing = none) (retries : s.engine.attempts ≤ t.spec.retryLimit) :
    (beginAttempt t s).engine.ok = true := by
  have counters := (LineCounters.ok_iff _).mp b.counters
  have attempts : (Work.transaction t).attemptsOk (s.engine.attempts + 1) = true := decide_eq_true (by omega)
  unfold beginAttempt
  dsimp only
  refine beginExchange_ok (w := .transaction t) ?_ ⟨work, station, attempts⟩ state referral rfl ?_ ?_ (.inl closing)
  · refine b.count (LineCounters.ok_iff _ |>.mpr ?_) rfl rfl rfl
    split <;> simp only [counters, bump_le, and_self]
  · simp only [Exchange.kindOk, Exchange.begun, closing]
  · rw [replies_eq, station]
    rfl

/-! ### The end of work (R53) -/

/-- A stopped engine, or one between two pieces of work, is in order. -/
theorem ok_of_free {e : LineEngine} (b : e.InBounds) (state : e.state = .idle ∨ e.state = .paused ∨ e.state = .fault)
    (cleared : e.Cleared) (go : e.pausePending = false) : e.ok = true := e.ok_iff.mpr ⟨b, .free state cleared go⟩

section
variable {s : State}

/-- Entering PAUSED with nothing left of the work (R55, R56). -/
theorem enterPaused_ok (b : s.engine.InBounds) (c : s.engine.Cleared) : (enterPaused s).engine.ok = true := by
  refine (told_pollEngineStopped _).engine_ok ?_
  exact ok_of_free (b.same rfl rfl rfl) (.inr (.inl rfl))
    ⟨c.work, c.station, c.attempts, c.lastReply, c.wait, c.exchange, c.referral, c.closing⟩ rfl

theorem enterFault_ok (b : s.engine.InBounds) (c : s.engine.Cleared) : (enterFault s).engine.ok = true := by
  refine (told_pollEngineStopped _).engine_ok ?_
  exact ok_of_free (b.same rfl rfl rfl) (.inr (.inr rfl))
    ⟨c.work, c.station, c.attempts, c.lastReply, c.wait, c.exchange, c.referral, c.closing⟩ rfl

theorem enterIdle_ok (b : s.engine.InBounds) (c : s.engine.Cleared) (go : s.engine.pausePending = false) :
    ({ s with engine := { s.engine with state := .idle } } : State).engine.ok = true :=
  ok_of_free (b.same rfl rfl rfl) (.inl rfl)
    ⟨c.work, c.station, c.attempts, c.lastReply, c.wait, c.exchange, c.referral, c.closing⟩ go

theorem clearWork_cleared (referral : s.engine.referral = none) : (clearWork s).engine.Cleared :=
  ⟨rfl, rfl, rfl, rfl, rfl, rfl, referral, rfl⟩

theorem endState_ok (r : AttemptResult) (b : s.engine.InBounds) (c : s.engine.Cleared) : (endState r s).engine.ok = true := by
  unfold endState
  repeat' split
  · exact enterFault_ok b c
  · exact enterPaused_ok b c
  · rename_i go
    exact enterIdle_ok b c (Bool.eq_false_iff.mpr go)

theorem Told.referral {t : State} (h : Told s t) : t.engine.referral = s.engine.referral := by
  obtain ⟨n, eq, -⟩ := h.engine
  rw [eq]

/-- The end of work of an engine without a referral. -/
theorem endWork_ok (o : TxnOutcome) (r : AttemptResult) (b : s.engine.InBounds) (referral : s.engine.referral = none) :
    (endWork o r s).engine.ok = true := by
  have told := told_endTaken o r s
  rw [endWork_eq]
  exact endState_ok r ((told.engine.inBounds b).same rfl rfl rfl) (clearWork_cleared (told.referral.trans referral))

/-! ### The grant (R46, R47) -/

/-- An IDLE engine in order has nothing of a piece of work. -/
theorem cleared_of_idle (ok : s.engine.ok = true) (idle : s.engine.state = .idle) :
    s.engine.Cleared ∧ s.engine.pausePending = false := by
  obtain ⟨-, ⟨-, cleared, go⟩ | ⟨w, x, h⟩ | ⟨t, h⟩ | ⟨w, r, h⟩⟩ := s.engine.ok_iff.mp ok
  · exact ⟨cleared, go⟩
  · exact absurd (idle.symm.trans h.state) (by decide)
  · exact absurd (idle.symm.trans h.state) (by decide)
  · exact absurd (idle.symm.trans h.state) (by decide)

theorem grantPoll_ok (n : Nat) (ok : s.engine.ok = true) (idle : s.engine.state = .idle) : (grantPoll n s).engine.ok = true := by
  obtain ⟨b, -⟩ := s.engine.ok_iff.mp ok
  obtain ⟨c, -⟩ := cleared_of_idle ok idle
  have closing := c.closing
  exact beginExchange_ok (w := .poll n) (b.same rfl rfl rfl) ⟨rfl, rfl, rfl⟩ rfl c.referral rfl
    (by simp [Exchange.kindOk, Exchange.begun, closing]) rfl (.inl closing)

/-- A take leads to the first attempt, or to the end that a start-time check gives. -/
theorem grantQueue_ok (ok : s.engine.ok = true) (idle : s.engine.state = .idle) : (grantQueue s).1.engine.ok = true := by
  obtain ⟨b, -⟩ := s.engine.ok_iff.mp ok
  obtain ⟨c, go⟩ := cleared_of_idle ok idle
  unfold grantQueue
  split
  · rename_i t q _
    have taken : (takeWork t q s).engine.InBounds := b.same rfl rfl rfl
    dsimp only
    split
    · rename_i o _
      have told := told_handCompletion ((takeWork t q s).engine.completion t o) (takeWork t q s)
      have bounds : (clearWork (handCompletion ((takeWork t q s).engine.completion t o) (takeWork t q s))).engine.InBounds :=
        (told.engine.inBounds taken).same rfl rfl rfl
      have cleared := clearWork_cleared (told.referral.trans c.referral)
      unfold completeAtTake
      dsimp only
      split
      · exact enterPaused_ok bounds cleared
      · rename_i pending
        exact enterIdle_ok bounds cleared (Bool.eq_false_iff.mpr pending)
    · exact beginAttempt_ok (b.same rfl rfl rfl) rfl rfl rfl c.referral c.closing (Nat.zero_le _)
  · exact ok_of_free (b.same rfl rfl rfl) (.inl idle)
      ⟨c.work, c.station, c.attempts, c.lastReply, c.wait, c.exchange, c.referral, c.closing⟩ go

theorem grantOnce_ok (ok : s.engine.ok = true) : (grantOnce s).1.engine.ok = true := by
  unfold grantOnce
  split
  · rename_i idle
    repeat' split
    · exact grantPoll_ok _ ok idle
    · exact ok
    · exact grantQueue_ok ok idle
  · exact ok

theorem decideGrant_ok (ok : s.engine.ok = true) : (decideGrant s).engine.ok = true :=
  decideGrant_keeps (P := fun u => u.engine.ok = true) (fun _ => grantOnce_ok) ok

theorem takeDecided_ok (ok : s.engine.ok = true) : (takeDecided s).engine.ok = true := by
  unfold takeDecided
  split
  · rename_i idle
    dsimp only
    split
    · exact decideGrant_ok (grantQueue_ok ok idle)
    · exact grantQueue_ok ok idle
  · exact ok

theorem finishWork_ok (o : TxnOutcome) (r : AttemptResult) (b : s.engine.InBounds) (referral : s.engine.referral = none) :
    (finishWork o r s).engine.ok = true := decideGrant_ok (endWork_ok o r b referral)

theorem resumeIdle_ok (ok : s.engine.ok = true) (stopped : s.engine.state = .paused ∨ s.engine.state = .fault) :
    (resumeIdle s).engine.ok = true := by
  obtain ⟨b, stage⟩ := s.engine.ok_iff.mp ok
  have idle : ∀ c, ({ s with engine := { s.engine with state := .idle }, choices := c } : State).engine.ok = true := by
    intro n
    obtain ⟨-, c, go⟩ | ⟨w, x, h⟩ | ⟨t, h⟩ | ⟨w, r, h⟩ := stage
    · exact enterIdle_ok b c go
    · simp [h.state] at stopped
    · simp [h.state] at stopped
    · simp [h.state] at stopped
  unfold resumeIdle decideThenPresent
  dsimp only
  repeat' split
  · exact decideGrant_ok ((told_pollTest _).engine_ok (idle _))
  · exact decideGrant_ok ((told_pollTest _).engine_ok (grantOnce_ok (idle _)))
  · exact (told_pollTest _).engine_ok (grantOnce_ok (idle _))
  · exact decideGrant_ok (idle s.choices)

/-! ### Referrals (R84 to R88) -/

/-- A referral opens on work that is ACTIVE toward a station. -/
theorem openReferral_ok {x : Exchange} {r : Reply} {w : Work} {n : Nat} (b : s.engine.InBounds) (h : s.engine.Works w)
    (station : s.engine.station = some n) (exchange : s.engine.exchange = none) (wait : s.engine.wait = none)
    (closing : s.engine.closing = none) : (openReferral x r s).engine.ok = true := by
  have nextId := b.nextId
  refine (LineEngine.ok_iff _).mpr ⟨⟨b.config, b.counters, ?_⟩, ?_⟩
  · show 1 ≤ nextReferralId s.engine.nextReferralId ∧ nextReferralId s.engine.nextReferralId ≤ 255
    unfold nextReferralId
    split <;> omega
  · refine .holds w _ ⟨⟨h.work, h.station, h.attempts⟩, rfl, rfl, exchange, wait, closing, ?_, ?_, nextId⟩
    · show s.engine.station = some (s.engine.station.getD 0)
      rw [station]
      rfl
    · dsimp only
      rw [h.work]
      cases w <;> rfl

/-- A closing claim leads to its verdict exchange (R54, R88). -/
theorem closeReferral_ok {r : Referral} {c : Closure} (a : List Byte) (ok : s.engine.ok = true)
    (opened : s.engine.referral = some r) (claim : c ≠ .fault) : (closeReferral r c a s).engine.ok = true := by
  obtain ⟨b, stage⟩ := s.engine.ok_iff.mp ok
  obtain ⟨-, cleared, -⟩ | ⟨w, x, h⟩ | ⟨t, h⟩ | ⟨w, r', h⟩ := stage
  · exact absurd (opened.symm.trans cleared.referral) (by simp)
  · exact absurd (opened.symm.trans h.referral) (by simp)
  · exact absurd (opened.symm.trans h.referral) (by simp)
  · have station : s.engine.station.isSome = true := by simp [h.asked]
    unfold closeReferral beginVerdict
    dsimp only
    cases c
    case fault => exact absurd rfl claim
    case answeredAccept =>
      exact beginExchange_ok (w := w) (b.same rfl rfl rfl) ⟨h.work, h.station, h.attempts⟩ rfl rfl h.wait
        (by cases w <;> rfl) (by simp [station]) (.inr station)
    all_goals
      exact beginExchange_ok (w := w) (b.same rfl rfl rfl) ⟨h.work, h.station, h.attempts⟩ rfl rfl h.wait
        (by cases w <;> rfl) rfl (.inr station)

/-! ### An exchange goes on, and ends (R26 to R34, R48 to R54) -/

/-- A move within an exchange keeps its context in order. -/
theorem ExchangeStep.keeps {c : LineConfig} {held : Bool} {x y : Exchange} (h : ExchangeStep c held x y)
    (ok : x.phaseOk = true) : y.phaseOk = true ∧ y.kind = x.kind ∧ y.replyExpected = x.replyExpected := by
  cases h
  case released =>
    unfold Exchange.released
    unfold Exchange.phaseOk at ok
    split
    · rename_i check
      simp only [check, Bool.and_eq_true, beq_iff_eq, List.isEmpty_iff] at ok
      obtain ⟨⟨⟨⟨⟨sent, reply⟩, -⟩, -⟩, hold⟩, window⟩ := ok
      simp [Exchange.phaseOk, sent, reply, hold, window, x.frame.bytes_pos]
    · rename_i send
      simp only [send] at ok
      simp only [Exchange.phaseOk, send, ok, and_self]
    · rename_i turn
      simp only [turn, Bool.and_eq_true, beq_iff_eq, List.isEmpty_iff] at ok
      obtain ⟨⟨⟨⟨⟨expected, sent⟩, reply⟩, stuck⟩, ready⟩, window⟩ := ok
      split
      · rename_i hold
        simp only [Option.isNone_iff_eq_none] at ready stuck hold
        simp [Exchange.phaseOk, Exchange.replyOk, expected, sent, reply, stuck, ready, hold]
      · simp [Exchange.phaseOk, turn, expected, sent, reply, stuck, ready, window]
    · rename_i receive
      simp only [receive, Bool.and_eq_true] at ok
      obtain ⟨rest, received⟩ := ok
      simp only [Exchange.phaseOk, receive, rest, Bool.and_eq_true, true_and, and_self, and_true]
      unfold Exchange.replyOk at received ⊢
      dsimp only
      split <;> simp_all
  case byteSent send more =>
    unfold Exchange.phaseOk at ok
    simp only [send, Bool.and_eq_true] at ok
    obtain ⟨⟨⟨⟨-, reply⟩, stuck⟩, hold⟩, window⟩ := ok
    simp [Exchange.phaseOk, Exchange.readyWait, send, more, reply, stuck, hold, window]
  case turn send ready last expected =>
    unfold Exchange.phaseOk at ok
    simp only [send, Bool.and_eq_true, decide_eq_true_eq] at ok
    obtain ⟨⟨⟨⟨less, reply⟩, stuck⟩, -⟩, -⟩ := ok
    have all : x.bytesSent + 1 = x.frame.bytes.length := by omega
    simp [Exchange.phaseOk, Exchange.turn, expected, all, reply, stuck, ready]
  case turnHeld turn =>
    unfold Exchange.phaseOk at ok
    simp only [turn] at ok
    simp only [Exchange.phaseOk, turn, ok, and_self]
  case byteReceived b cls count receive head more =>
    unfold Exchange.phaseOk at ok
    simp only [receive, Bool.and_eq_true] at ok
    obtain ⟨⟨⟨⟨⟨expected, sent⟩, stuck⟩, hold⟩, window⟩, -⟩ := ok
    simp only [Exchange.phaseOk, Exchange.readyWait, receive, expected, sent, stuck, hold, window, Bool.and_self, Bool.true_and,
      and_self, and_true]
    unfold Exchange.replyOk
    dsimp only
    cases soFar : x.replySoFar with
    | nil =>
      simp only [soFar, List.headD_nil] at head
      simp [head]
    | cons first rest =>
      simp only [soFar, List.headD_cons, List.length_cons] at head more
      simp only [List.cons_append, head, List.length_cons, List.length_append, List.length_nil, decide_eq_true_eq]
      omega

theorem setExchange_ok {x y : Exchange} (ok : s.engine.ok = true) (current : s.engine.exchange = some x)
    (h : ExchangeStep s.engine.config s.lrdyHeld x y) : (setExchange y s).engine.ok = true := by
  obtain ⟨b, ⟨-, c, -⟩ | ⟨w, x', r⟩ | ⟨t, r⟩ | ⟨w, q, r⟩⟩ := s.engine.ok_iff.mp ok
  · exact absurd (current.symm.trans c.exchange) (by simp)
  · obtain rfl : x = x' := Option.some.inj (current.symm.trans r.exchange)
    obtain ⟨phase, kind, reply⟩ := h.keeps r.phase
    refine (LineEngine.ok_iff _).mpr ⟨b.same rfl rfl rfl, .runs w y ?_⟩
    refine ⟨⟨r.work, r.station, r.attempts⟩, r.state, r.referral, rfl, r.wait, ?_, phase, ?_, r.closed⟩
    · have old := r.kind
      unfold Exchange.kindOk at old ⊢
      rw [kind]
      exact old
    · rw [reply, kind]
      exact r.reply
  · exact absurd (current.symm.trans r.exchange) (by simp)
  · exact absurd (current.symm.trans r.exchange) (by simp)

/-- What an ACTIVE engine whose exchange has just ended is: the end of an attempt or poll comes before any claim. -/
structure LineEngine.Ended (e : LineEngine) (w : Work) : Prop extends e.Works w where
  bounds : e.InBounds
  state : e.state = .active
  referral : e.referral = none
  exchange : e.exchange = none
  wait : e.wait = none
  closing : e.closing = none

theorem LineEngine.Ended.noteReply {w : Work} (h : s.engine.Ended w) (y : Reply) : (noteReply y s).engine.Ended w :=
  ⟨⟨h.work, h.station, h.attempts⟩, h.bounds.same rfl rfl rfl, h.state, h.referral, h.exchange, h.wait, h.closing⟩

/-- A reply, and no other result, tells of a station. -/
def Answers (e : LineEngine) (r : AttemptResult) : Prop := ∀ a, r = .reply a → e.station.isSome = true

theorem attemptEnd_ok {t : Transaction} {x : Exchange} {r : AttemptResult} (h : s.engine.Ended (.transaction t))
    (answers : Answers s.engine r) : (attemptEnd t x r s).engine.ok = true := by
  have wait : ∀ u : State, u.engine.Ended (.transaction t) → ∀ d, retriesRemain t u = true → (beginWait d u).engine.ok = true :=
    fun u k d remain => (LineEngine.ok_iff _).mpr ⟨k.bounds.same rfl rfl rfl, .waits t ⟨⟨k.work, k.station, k.attempts⟩, k.state,
      k.referral, k.exchange, Option.some_ne_none d, k.closing, of_decide_eq_true remain⟩⟩
  unfold attemptEnd
  split
  · rename_i y
    have noted := h.noteReply y
    have finish : ∀ o a, (finishWork o a (noteReply y s)).engine.ok = true := fun o a =>
      finishWork_ok o a noted.bounds noted.referral
    dsimp only
    split
    · exact finish _ _
    · exact finish _ _
    · split
      · rename_i remain
        exact wait _ noted _ remain
      · exact finish _ _
    · obtain ⟨n, station⟩ := Option.isSome_iff_exists.mp (answers y rfl)
      exact openReferral_ok noted.bounds noted.toWorks station noted.exchange noted.wait noted.closing
  · exact finishWork_ok _ _ h.bounds h.referral
  · split
    · rename_i remain
      exact wait _ h _ remain
    · exact finishWork_ok _ _ h.bounds h.referral
  · exact finishWork_ok _ _ h.bounds h.referral

theorem pollEnd_ok {n : Nat} {x : Exchange} {r : AttemptResult} (h : s.engine.Ended (.poll n)) :
    (pollEnd x r s).engine.ok = true := by
  have noted : ∀ y, (noteReply y s).engine.Ended (.poll n) := h.noteReply
  unfold pollEnd
  repeat' split
  · exact openReferral_ok (noted _).bounds (noted _).toWorks h.station (noted _).exchange (noted _).wait (noted _).closing
  · exact finishWork_ok _ _ (noted _).bounds (noted _).referral
  all_goals exact finishWork_ok _ _ h.bounds h.referral

theorem verdictEnd_ok {r : AttemptResult} (b : s.engine.InBounds) (referral : s.engine.referral = none) :
    (verdictEnd r s).engine.ok = true := by
  unfold verdictEnd
  cases r with
  | reply y => exact finishWork_ok (s := noteReply y s) _ _ (b.same rfl rfl rfl) referral
  | sent => exact finishWork_ok _ _ b referral
  | failed f => exact finishWork_ok _ _ b referral
  | lineFault => exact finishWork_ok _ _ b referral

/-- An exchange of kind ATTEMPT or POLL is one of a transaction or a poll, before any claim. -/
theorem kindOk_cases {x : Exchange} {w : Work} {c : Option Closing} (h : x.kindOk w c = true) :
    (x.kind = .attempt → c = none ∧ ∃ t, w = .transaction t) ∧ (x.kind = .poll → c = none ∧ ∃ n, w = .poll n) := by
  unfold Exchange.kindOk at h
  split at h
  case h_1 kind => simp [kind]
  case h_2 kind => simp [kind]
  case h_3 kind => simp [kind]
  case h_4 kind => simp [kind]
  case h_5 => cases h

theorem endExchange_ok {x y : Exchange} {r : AttemptResult} (ok : s.engine.ok = true) (current : s.engine.exchange = some x)
    (kind : y.kind = x.kind) (received : ∀ a, r = .reply a → x.phase = .receive) : (endExchange y r s).engine.ok = true := by
  obtain ⟨b, ⟨-, c, -⟩ | ⟨w, x', run⟩ | ⟨t, h⟩ | ⟨w, q, h⟩⟩ := s.engine.ok_iff.mp ok
  · exact absurd (current.symm.trans c.exchange) (by simp)
  · obtain rfl : x = x' := Option.some.inj (current.symm.trans run.exchange)
    have counted : (endCounted y r s).engine.InBounds := b.count (countResult_ok _ _ b.counters) rfl rfl rfl
    have ended : s.engine.closing = none → (endCounted y r s).engine.Ended w := fun closing =>
      ⟨⟨run.work, run.station, run.attempts⟩, counted, run.state, run.referral, rfl, run.wait, closing⟩
    have answers : Answers (endCounted y r s).engine r := by
      intro a reply
      have phase := run.phase
      unfold Exchange.phaseOk at phase
      simp only [received a reply, Bool.and_eq_true] at phase
      obtain ⟨⟨⟨⟨⟨expected, -⟩, -⟩, -⟩, -⟩, -⟩ := phase
      exact ((Bool.and_eq_true _ _).mp (run.reply.symm.trans expected)).2
    obtain ⟨ofAttempt, ofPoll⟩ := kindOk_cases run.kind
    refine endExchange_cases (M := fun u => u.engine.ok = true) y r s (fun t attempt work => ?_) (fun attempt other => ?_)
      (fun poll => ?_) (fun _ => verdictEnd_ok counted run.referral)
    · obtain ⟨closing, -⟩ := ofAttempt (kind ▸ attempt)
      obtain rfl : w = .transaction t := Option.some.inj (run.work.symm.trans work)
      exact attemptEnd_ok (ended closing) answers
    · obtain ⟨-, t, rfl⟩ := ofAttempt (kind ▸ attempt)
      exact absurd run.work (other t)
    · obtain ⟨closing, n, rfl⟩ := ofPoll (kind ▸ poll)
      exact pollEnd_ok (ended closing)
  · exact absurd (current.symm.trans h.exchange) (by simp)
  · exact absurd (current.symm.trans h.exchange) (by simp)

/-- The engine goes on where it waits. -/
theorem nextAttempt_ok {t : Transaction} (ok : s.engine.ok = true) (current : s.engine.work = some (.transaction t))
    (waits : s.engine.wait ≠ none) : (beginAttempt t s).engine.ok = true := by
  obtain ⟨b, ⟨-, c, -⟩ | ⟨w, x, h⟩ | ⟨t', h⟩ | ⟨w, q, h⟩⟩ := s.engine.ok_iff.mp ok
  · exact absurd c.wait waits
  · exact absurd h.wait waits
  · obtain rfl : t = t' := by simpa using current.symm.trans h.work
    exact beginAttempt_ok b h.work h.station h.state h.referral h.closing h.retries
  · exact absurd h.wait waits

/-! ### The requests that set an engine field, starts, and every act -/

theorem setPause_ok (p : Bool) (ok : s.engine.ok = true) (working : s.engine.state = .active ∨ s.engine.state = .held) :
    (setPause p s).engine.ok = true := by
  obtain ⟨b, ⟨state, -, -⟩ | ⟨w, x, r⟩ | ⟨t, r⟩ | ⟨w, q, r⟩⟩ := s.engine.ok_iff.mp ok
  · obtain active | held := working
    · simp [active] at state
    · simp [held] at state
  all_goals refine (LineEngine.ok_iff _).mpr ⟨b.same rfl rfl rfl, ?_⟩
  · exact .runs w x ⟨⟨r.work, r.station, r.attempts⟩, r.state, r.referral, r.exchange, r.wait, r.kind, r.phase, r.reply, r.closed⟩
  · exact .waits t ⟨⟨r.work, r.station, r.attempts⟩, r.state, r.referral, r.exchange, r.wait, r.closing, r.retries⟩
  · exact .holds w q ⟨⟨r.work, r.station, r.attempts⟩, r.state, r.referral, r.exchange, r.wait, r.closing, r.asked, r.origin, r.id⟩

theorem lineConfig_ok {c : LineConfig} (ok : s.engine.ok = true) (valid : c.ok = true) :
    ({ s.engine with config := c } : LineEngine).ok = true := by
  unfold LineEngine.ok at ok ⊢
  simp only [Bool.and_eq_true] at ok ⊢
  obtain ⟨⟨⟨-, counters⟩, nextId⟩, stage⟩ := ok
  exact ⟨⟨⟨valid, counters⟩, nextId⟩, stage⟩

theorem setCounters_ok {c : LineCounters} (ok : s.engine.ok = true) (valid : c.ok = true) :
    ({ s.engine with counters := c } : LineEngine).ok = true := by
  unfold LineEngine.ok at ok ⊢
  simp only [Bool.and_eq_true] at ok ⊢
  obtain ⟨⟨⟨config, -⟩, nextId⟩, stage⟩ := ok
  exact ⟨⟨⟨config, valid⟩, nextId⟩, stage⟩

theorem started_ok (k : StartKind) {e : LineEngine} (ok : e.ok = true) : (e.started k).ok = true := by
  obtain ⟨b, -⟩ := e.ok_iff.mp ok
  have kept : ({ LineEngine.initial with config := e.config, counters := e.counters } : LineEngine).ok = true :=
    ok_of_free ⟨b.config, b.counters, le_rfl, (by decide : 1 ≤ 255)⟩ (.inl rfl) ⟨rfl, rfl, rfl, rfl, rfl, rfl, rfl, rfl⟩ rfl
  unfold LineEngine.started
  cases k
  case pin => exact kept
  case soft => exact kept
  all_goals exact (by decide : LineEngine.initial.ok = true)

end

/-- The end of a hold is counted (R62, R92). -/
theorem countHoldTimeout_ok {s : State} (ok : s.engine.ok = true) : (countHoldTimeout s).engine.ok = true := by
  obtain ⟨b, -⟩ := s.engine.ok_iff.mp ok
  have counters := (LineCounters.ok_iff _).mp b.counters
  refine setCounters_ok ok ((LineCounters.ok_iff _).mpr ?_)
  simp only [counters, bump_le, and_self]

theorem fireEntry_engine (ev : SecondBoundary) (i : Nat) (s : State) : (fireEntry ev i s).engine = s.engine := by
  unfold fireEntry
  dsimp only
  repeat' split
  all_goals rfl

/-- Every act leaves the engine in order. -/
theorem Act.engine_ok {s t : State} (act : Act s t) (ok : s.engine.ok = true) : t.engine.ok = true := by
  cases act
  case interface h => rw [h.engine]; exact ok
  case start k v b =>
    exact ((told_raise _ _).trans (told_pollTest _)).engine_ok (s := startBlocks k { s with vdd := v, backupKept := b })
      (started_ok k ok)
  case powerLoss => exact started_ok .warm ok
  case noteAck i held =>
    unfold reportLost
    split <;> exact ok
  case report => exact (told_takeNextReport s).engine_ok ok
  case stnDefine => exact (told_stationWrite _ _ _ _ s).engine_ok ok
  case stnForget => exact (told_stationWrite _ _ _ _ s).engine_ok ok
  case stnRestore => exact (told_stationWrite _ _ _ _ s).engine_ok ok
  case send => exact decideGrant_ok (s := admission .host _ s) ok
  case cancel c ticket => exact (told_handCompletion _ { s with queue := s.queue.remove ticket }).engine_ok ok
  case pause idle =>
    obtain ⟨c, -⟩ := cleared_of_idle ok idle
    exact enterPaused_ok (s.engine.ok_iff.mp ok).1 c
  case setPause p working => exact setPause_ok p ok working
  case resume stopped => exact resumeIdle_ok ok stopped
  case lineConfig c stopped valid => exact lineConfig_ok ok valid
  case clearCounters => exact setCounters_ok ok rfl
  case closeReferral opened claim => exact closeReferral_ok _ ok opened claim
  case countHoldTimeout => exact countHoldTimeout_ok ok
  case exchangeMoves current h => exact setExchange_ok ok current h
  case exchangeEnds current kind received => exact endExchange_ok ok current kind received
  case nextAttempt current waits => exact nextAttempt_ok ok current waits
  case latnHeld => exact (told_pollTest { s with latnHeld := true }).engine_ok ok
  case latnReleased =>
    unfold Machine.latnReleased
    split
    · exact (told_pollTest _).engine_ok ok
    · exact ok
  case holdoffExpiry =>
    unfold pollHoldoffExpiry
    split
    · exact (told_pollTest _).engine_ok ok
    · exact ok
  case presented =>
    unfold requestPresented
    split
    · exact decideGrant_ok ok
    · exact ok
  case decide => exact decideGrant_ok ok
  case takeDecided => exact takeDecided_ok ok
  all_goals exact ok

/-- Settles O8: every act leads from one stage of the engine to another. -/
theorem engineRecordStaysWhole : Obligations.EngineRecordStaysWhole := by
  intro s t ok next
  refine step_keeps_of_acts (P := fun u => u.engine.ok = true) (fun _ _ act => act.engine_ok) ?_ ok next
  intro ev i u h
  rw [fireEntry_engine]
  exact h

end Sys2Proof.Machine
end

section
/-! SUPPORT. The line side as a whole: its invariant part by part, what the Poll Unit's own operations make of it, and the change
to a station record. -/

namespace Sys2Proof.Machine

/-! ### The parts of the invariant (R46, R66, R72, R101 to R112) -/

/-- Station m is one of the 30 and in service. -/
def State.serves (s : State) (m : Nat) : Prop := 1 ≤ m ∧ m ≤ 30 ∧ (s.stationAt m).inService = true

/-- The numbers of the Poll Unit. -/
structure PollUnit.InBounds (p : PollUnit) : Prop where
  pointer : p.pointer ≤ 30
  phantoms : p.phantomCount ≤ 15
  below : p.state = .ignoring ∨ p.phantomCount ≤ 14

/-- The unit is in CYCLING with the cycle c. -/
structure State.Cycling (s : State) (c : Cycle) : Prop where
  state : s.poll.state = .cycling
  holdoff : s.poll.holdoff = none
  running : s.engine.running = true
  cycle : s.poll.cycle = some c

/-- The stations l are distinct ones in service, where `exempt` may have left service. -/
structure State.Members (s : State) (exempt : Option Nat) (l : List Nat) : Prop where
  distinct : l.Nodup
  low : ∀ m ∈ l, 1 ≤ m
  high : ∀ m ∈ l, m ≤ 30
  inService : ∀ m ∈ l, exempt ≠ some m → (s.stationAt m).inService = true

/-- The request of member n is presented. With `strict`, an IDLE engine has yet to come to its decision (log 9); without, it may
be about to. -/
structure State.Asks (s : State) (strict : Bool) (n : Nat) : Prop where
  idle : s.poll.due = true → s.engine.state = .idle
  due : strict = true → s.engine.state = .idle → s.poll.due = true
  work : s.engine.work ≠ some (.poll n)

/-- The stage the Poll Unit is in: no cycle, a request presented, or a poll granted. -/
inductive PollStage (strict : Bool) (exempt : Option Nat) (s : State) : Prop where
  | still (state : s.poll.state ≠ .cycling) (cycle : s.poll.cycle = none) (due : s.poll.due = false)
      (holdoff : s.poll.holdoff.isSome = true ↔ s.poll.state = .holdoff)
  | presented (c : Cycle) (n : Nat) (cycling : s.Cycling c) (inFlight : c.inFlight = some n) (request : c.request = .presented)
      (members : s.Members exempt (n :: c.remaining)) (asks : s.Asks strict n)
  | granted (c : Cycle) (n : Nat) (cycling : s.Cycling c) (inFlight : c.inFlight = some n) (request : c.request = .granted)
      (members : s.Members exempt (n :: c.remaining)) (due : s.poll.due = false) (work : s.engine.work = some (.poll n))

/-- The engine's poll is the one the Poll Unit has in flight. -/
def State.pollInFlight (s : State) : Prop :=
  ∀ n, s.engine.work = some (.poll n) → ∃ c, s.poll.cycle = some c ∧ c.inFlight = some n ∧ c.request = .granted

/-- An IDLE Poll Unit that finds LATN held waits for the engine (R102). -/
def State.heeds (s : State) : Prop :=
  s.vdd = true → s.poll.state = .idle → s.latnHeld = true → s.engine.running = false

/-- An IDLE engine has no queued work (R46). -/
def State.idleEmpty (s : State) : Prop := s.engine.state = .idle → s.queue.count = 0

/-- The tables and the transactions are in range. -/
structure State.Tables (s : State) : Prop where
  schedule : s.scheduleOk = true
  specs : s.specsOk = true
  count : s.stations.length = 30
  records : s.stations.all (·.ok s.engine.config.failureThreshold) = true

/-- The line side beside the engine record, the queue's emptiness and the reading of LATN. -/
structure LineRest (strict : Bool) (s : State) : Prop where
  tables : s.Tables
  station : ∀ n, s.engine.station = some n → s.serves n
  bounds : s.poll.InBounds
  stage : PollStage strict none s
  granted : s.pollInFlight

theorem members_iff {s : State} {l : List Nat} : s.Members none l ↔ l.Nodup ∧ ∀ m ∈ l, s.serves m := by
  constructor
  · exact fun h => ⟨h.distinct, fun m mem => ⟨h.low m mem, h.high m mem, h.inService m mem (by simp)⟩⟩
  · rintro ⟨distinct, serves⟩
    exact ⟨distinct, fun m mem => (serves m mem).1, fun m mem => (serves m mem).2.1, fun m mem _ => (serves m mem).2.2⟩

theorem pollBounds_iff (p : PollUnit) : p.InBounds ↔
    (decide (p.pointer ≤ 30 ∧ p.phantomCount ≤ 15) && (p.state == .ignoring || decide (p.phantomCount ≤ 14))) = true := by
  simp only [Bool.and_eq_true, Bool.or_eq_true, decide_eq_true_eq, beq_iff_eq]
  exact ⟨fun ⟨pointer, phantoms, below⟩ => ⟨⟨pointer, phantoms⟩, below⟩, fun ⟨⟨pointer, phantoms⟩, below⟩ => ⟨pointer, phantoms, below⟩⟩

/-- A cycle in order is a request presented or a poll granted. -/
theorem cycleOk_iff {s : State} {c : Cycle} (cycling : s.Cycling c) : s.cycleOk c = true ↔ PollStage true none s := by
  have member : ∀ m, (decide (1 ≤ m ∧ m ≤ 30) && (s.stationAt m).inService) = true ↔ s.serves m := by
    intro m
    rw [Bool.and_eq_true, decide_eq_true_eq, and_assoc]
    rfl
  have same : ∀ d, s.Cycling d → d = c := fun d other => Option.some.inj (other.cycle.symm.trans cycling.cycle)
  unfold State.cycleOk
  constructor
  · intro ok
    split at ok
    · cases ok
    · rename_i n inFlight
      simp only [Bool.and_eq_true, decide_eq_true_eq, List.all_eq_true] at ok
      obtain ⟨⟨distinct, all⟩, request⟩ := ok
      have members : s.Members none (n :: c.remaining) :=
        members_iff.mpr ⟨distinct, fun m mem => ⟨(all m mem).1.1, (all m mem).1.2, (all m mem).2⟩⟩
      split at request
      · cases request
      · rename_i presented
        obtain ⟨due, work⟩ := (Bool.and_eq_true _ _).mp request
        have dueIff : s.poll.due = true ↔ s.engine.state = .idle := by rw [beq_iff_eq.mp due, beq_iff_eq]
        exact .presented c n cycling inFlight presented members ⟨dueIff.mp, fun _ => dueIff.mpr, by simpa using work⟩
      · rename_i granted
        obtain ⟨due, work⟩ := (Bool.and_eq_true _ _).mp request
        exact .granted c n cycling inFlight granted members (by simpa using due) (beq_iff_eq.mp work)
  · rintro (⟨state, -, -, -⟩ | ⟨d, n, other, inFlight, request, members, asks⟩ | ⟨d, n, other, inFlight, request, members, due, work⟩)
    · exact absurd cycling.state state
    · obtain rfl := same d other
      obtain ⟨distinct, serves⟩ := members_iff.mp members
      have dueIff : s.poll.due = true ↔ s.engine.state = .idle := ⟨asks.idle, asks.due rfl⟩
      have dueEq : s.poll.due = (s.engine.state == .idle) := Bool.eq_iff_iff.mpr (by rw [dueIff, beq_iff_eq])
      simp only [inFlight, request, distinct, decide_true, Bool.true_and, Bool.and_eq_true, List.all_eq_true, ← dueEq, beq_self_eq_true,
        Bool.not_eq_true', beq_eq_false_iff_ne]
      exact ⟨fun m mem => by simpa using (member m).mpr (serves m mem), asks.work⟩
    · obtain rfl := same d other
      obtain ⟨distinct, serves⟩ := members_iff.mp members
      simp only [inFlight, request, distinct, decide_true, Bool.true_and, Bool.and_eq_true, List.all_eq_true, due, work,
        beq_self_eq_true, Bool.not_false, and_true]
      exact fun m mem => by simpa using (member m).mpr (serves m mem)

/-- The Poll Unit's invariant: its numbers in range, and one of the three stages. -/
theorem pollOk_iff (s : State) : s.pollOk = true ↔ s.poll.InBounds ∧ PollStage true none s := by
  have still : s.poll.state ≠ .cycling → (PollStage true none s ↔
      s.poll.cycle = none ∧ s.poll.due = false ∧ (s.poll.holdoff.isSome = true ↔ s.poll.state = .holdoff)) := by
    intro state
    constructor
    · rintro (⟨-, cycle, due, holdoff⟩ | ⟨c, n, cycling, -⟩ | ⟨c, n, cycling, -⟩)
      · exact ⟨cycle, due, holdoff⟩
      · exact absurd cycling.state state
      · exact absurd cycling.state state
    · exact fun ⟨cycle, due, holdoff⟩ => .still state cycle due holdoff
  unfold State.pollOk
  rw [pollBounds_iff, Bool.and_eq_true]
  refine and_congr_right fun _ => ?_
  cases state : s.poll.state with
  | idle => simp [still (by simp [state]), state, and_assoc, and_comm]
  | holdoff => simp [still (by simp [state]), state, and_assoc, and_comm]
  | ignoring => simp [still (by simp [state]), state, and_assoc, and_comm]
  | cycling =>
    simp only [Bool.and_eq_true, Option.isNone_iff_eq_none, Option.any_eq_true]
    constructor
    · rintro ⟨⟨holdoff, running⟩, c, cycle, ok⟩
      exact (cycleOk_iff ⟨state, holdoff, running, cycle⟩).mp ok
    · intro stage
      have cycling : ∃ c, s.Cycling c := by
        obtain ⟨other, -⟩ | ⟨c, n, cycling, -⟩ | ⟨c, n, cycling, -⟩ := stage
        · exact absurd state other
        · exact ⟨c, cycling⟩
        · exact ⟨c, cycling⟩
      obtain ⟨c, cycling⟩ := cycling
      exact ⟨⟨cycling.holdoff, cycling.running⟩, c, cycling.cycle, (cycleOk_iff cycling).mpr stage⟩

theorem grantedOk_iff (s : State) : s.grantedOk = true ↔ s.pollInFlight := by
  unfold State.grantedOk State.pollInFlight
  split
  · rename_i n work
    simp [work, Option.any_eq_true]
  · rename_i other
    simp only [true_iff]
    exact fun n work => absurd work (other n)

theorem readyOk_iff (s : State) : s.readyOk = true ↔ s.idleEmpty ∧ s.heeds := by
  unfold State.readyOk State.idleEmpty State.heeds
  rw [Bool.and_eq_true]
  refine and_congr ?_ ?_
  · by_cases idle : s.engine.state = .idle <;> simp [idle]
  · by_cases idle : s.poll.state = .idle <;> cases s.vdd <;> cases s.latnHeld <;> simp [idle]

theorem stationsOk_iff (s : State) : s.stationsOk = true ↔ s.stations.length = 30 ∧
    s.stations.all (·.ok s.engine.config.failureThreshold) = true ∧ ∀ n, s.engine.station = some n → s.serves n := by
  unfold State.stationsOk State.serves Config.stationCount
  simp only [Bool.and_eq_true, beq_iff_eq, Option.all_eq_true, decide_eq_true_eq, and_assoc]

/-- The line side's invariant, part by part. -/
theorem lineOk_iff (s : State) : s.lineOk = true ↔ s.engine.ok = true ∧ LineRest true s ∧ s.heeds ∧ s.idleEmpty := by
  unfold State.lineOk
  simp only [Bool.and_eq_true, stationsOk_iff, pollOk_iff, grantedOk_iff, readyOk_iff]
  constructor
  · rintro ⟨⟨⟨⟨⟨⟨engine, schedule⟩, specs⟩, count, records, station⟩, bounds, stage⟩, granted⟩, idleEmpty, heeds⟩
    exact ⟨engine, ⟨⟨schedule, specs, count, records⟩, station, bounds, stage, granted⟩, heeds, idleEmpty⟩
  · rintro ⟨engine, ⟨⟨schedule, specs, count, records⟩, station, bounds, stage, granted⟩, heeds, idleEmpty⟩
    exact ⟨⟨⟨⟨⟨⟨engine, schedule⟩, specs⟩, count, records, station⟩, bounds, stage⟩, granted⟩, idleEmpty, heeds⟩

/-! ### What the Poll Unit's operations leave unchanged -/

/-- From s to t the Poll Unit acted: its record changed, notices were raised, a phantom cycle may have been counted. -/
structure Polled (s t : State) : Prop where
  told : Told s t
  side : LineSide s t
  stations : t.stations = s.stations
  schedule : t.schedule = s.schedule

namespace Polled
variable {s t u : State}

theorem refl (s : State) : Polled s s := ⟨.refl s, .refl s, rfl, rfl⟩

theorem trans (h : Polled s t) (k : Polled t u) : Polled s u :=
  ⟨h.told.trans k.told, h.side.trans k.side, k.stations.trans h.stations, k.schedule.trans h.schedule⟩

theorem state (h : Polled s t) : t.engine.state = s.engine.state := by
  obtain ⟨n, eq, -⟩ := h.told.engine
  rw [eq]

theorem work (h : Polled s t) : t.engine.work = s.engine.work := h.told.work

theorem station (h : Polled s t) : t.engine.station = s.engine.station := by
  obtain ⟨n, eq, -⟩ := h.told.engine
  rw [eq]

theorem config (h : Polled s t) : t.engine.config = s.engine.config := by
  obtain ⟨n, eq, -⟩ := h.told.engine
  rw [eq]

theorem running (h : Polled s t) : t.engine.running = s.engine.running := by
  unfold LineEngine.running
  rw [h.state]

theorem stationAt (h : Polled s t) (m : Nat) : t.stationAt m = s.stationAt m := by
  unfold State.stationAt
  rw [h.stations]

theorem serves (h : Polled s t) (m : Nat) : t.serves m ↔ s.serves m := by
  unfold State.serves
  rw [h.stationAt]

theorem members (h : Polled s t) {exempt : Option Nat} {l : List Nat} (m : s.Members exempt l) : t.Members exempt l :=
  ⟨m.distinct, m.low, m.high, fun k mem other => by rw [h.stationAt]; exact m.inService k mem other⟩

end Polled

theorem polled_pollSet (s : State) (p : PollUnit) : Polled s { s with poll := p } :=
  ⟨told_pollSet s p, lineSide_pollSet s p, rfl, rfl⟩

theorem polled_raise (b : NoticeBody) (s : State) : Polled s (raise b s) := ⟨told_raise b s, lineSide_raise b s, rfl, rfl⟩

theorem polled_pollCompleteEnd (seen : Bool) (s : State) : Polled s (pollCompleteEnd seen s) := by
  refine ⟨told_pollCompleteEnd seen s, lineSide_pollCompleteEnd seen s, ?_, ?_⟩
  all_goals
    unfold pollCompleteEnd
    dsimp only
    repeat' split
    all_goals rfl

theorem polled_pollTurn (s : State) : Polled s (pollTurn s) := by
  unfold pollTurn
  repeat' split
  · exact .refl s
  · exact polled_pollSet s _
  · exact polled_pollCompleteEnd _ s
  · exact polled_pollSet s _

theorem polled_pollTest (s : State) : Polled s (pollTest s) := by
  unfold pollTest
  split
  · exact (polled_pollSet s _).trans (polled_pollTurn _)
  · exact .refl s

theorem polled_pollEngineStopped (s : State) : Polled s (pollEngineStopped s) := by
  unfold pollEngineStopped
  split
  · exact polled_pollSet s _
  · exact .refl s

theorem polled_pollStationGone (n : Nat) (s : State) : Polled s (pollStationGone n s) := by
  unfold pollStationGone
  repeat' split
  · exact .refl s
  · exact (polled_pollSet s _).trans (polled_pollTurn _)
  · exact polled_pollSet s _

theorem polled_pollService (n : Nat) (last : Option Reply) (s : State) : Polled s (pollService n last s) := by
  unfold pollService
  repeat' split
  · exact (polled_raise _ s).trans (polled_pollSet _ _)
  · exact .refl s
  · exact .refl s

/-! ### The turn to the next member (R103, R104, R107) -/

/-- What the unit is after a turn: a stage in order, no poll granted, and IDLE only with LATN released. -/
structure PollTurned (exempt : Option Nat) (t : State) : Prop where
  bounds : t.poll.InBounds
  stage : PollStage true exempt t
  free : ∀ c, t.poll.cycle = some c → c.request ≠ .granted
  released : t.poll.state = .idle → t.latnHeld = false

theorem pollHoldoff_turned (exempt : Option Nat) {s : State} (pointer : s.poll.pointer ≤ 30) (phantoms : s.poll.phantomCount ≤ 14) :
    PollTurned exempt (pollHoldoff s) := by
  refine ⟨⟨pointer, by simp only [pollHoldoff]; omega, .inr phantoms⟩, .still ?_ rfl rfl ?_, ?_, ?_⟩
  all_goals simp [pollHoldoff]

/-- The complete end leads to HOLDOFF or, at the phantom limit, to IGNORING (R107). -/
theorem pollCompleteEnd_turned (exempt : Option Nat) (seen : Bool) {s : State} (bounds : s.poll.InBounds)
    (cycling : s.poll.state = .cycling) (holdoff : s.poll.holdoff = none) (limit : s.engine.config.phantomLimit ≤ 15) :
    PollTurned exempt (pollCompleteEnd seen s) := by
  have below : s.poll.phantomCount ≤ 14 := by simpa [cycling] using bounds.below
  have pointer := bounds.pointer
  unfold pollCompleteEnd
  dsimp only
  split
  · exact pollHoldoff_turned exempt pointer (Nat.zero_le _)
  · split
    · have more : s.poll.phantomCount + 1 ≤ 15 := by omega
      exact ⟨⟨pointer, more, .inl rfl⟩, .still (by simp) rfl rfl (by simp [holdoff]), by simp, by simp⟩
    · rename_i under
      exact pollHoldoff_turned exempt pointer (by dsimp only at under ⊢; omega)

/-- A turn of a unit whose engine runs none of the members left (R104). -/
theorem pollTurn_turned {exempt : Option Nat} {s : State} {c : Cycle} (bounds : s.poll.InBounds) (cycling : s.Cycling c)
    (limit : s.engine.config.phantomLimit ≤ 15) (members : s.Members exempt c.remaining)
    (other : ∀ m ∈ c.remaining, s.engine.work ≠ some (.poll m)) : PollTurned exempt (pollTurn s) := by
  obtain ⟨state, holdoff, running, cycle⟩ := cycling
  unfold pollTurn
  rw [cycle]
  dsimp only
  split
  · rename_i latn
    split
    · rename_i n rest remaining
      rw [remaining] at members other
      have kept := (polled_pollSet s { s.poll with
        cycle := some { c with remaining := rest, inFlight := some n, request := .presented }
        due := s.engine.state == .idle }).members members
      refine ⟨⟨bounds.pointer, bounds.phantoms, bounds.below⟩, ?_, ?_, ?_⟩
      · refine .presented _ n ⟨state, holdoff, running, rfl⟩ rfl rfl kept ⟨beq_iff_eq.mp, fun _ => beq_iff_eq.mpr, ?_⟩
        exact other n List.mem_cons_self
      · rintro d same
        cases same
        simp
      · exact fun idle => absurd (state.symm.trans idle) (by simp)
    · exact pollCompleteEnd_turned exempt _ bounds state holdoff limit
  · rename_i released
    exact ⟨⟨bounds.pointer, Nat.zero_le _, .inr (Nat.zero_le _)⟩, .still (by simp) rfl rfl (by simp [holdoff]), by simp,
      fun _ => Bool.eq_false_iff.mpr released⟩

/-- A rotation lists each station once (R103). -/
theorem mem_rotation {p m : Nat} (pointer : p ≤ 30) : m ∈ rotation p ↔ 1 ≤ m ∧ m ≤ 30 := by
  unfold rotation Config.stationCount
  rw [List.mem_append, List.mem_range'_1, List.mem_range'_1]
  omega

theorem rotation_nodup (p : Nat) : (rotation p).Nodup := by
  refine List.nodup_append.mpr ⟨List.nodup_range', List.nodup_range', ?_⟩
  intro a high b low same
  rw [List.mem_range'_1] at high low
  omega

theorem cycleList_members {s : State} (pointer : s.poll.pointer ≤ 30) : s.Members none s.cycleList := by
  have inList : ∀ m ∈ s.cycleList, m ∈ rotation s.poll.pointer ∧ (s.stationAt m).member = true := by
    intro m mem
    unfold State.cycleList at mem
    obtain first | second := List.mem_append.mp mem
    · exact List.mem_filter.mp (List.mem_of_mem_filter first)
    · exact List.mem_filter.mp (List.mem_of_mem_filter second)
  refine members_iff.mpr ⟨?_, fun m mem => ?_⟩
  · refine List.nodup_append.mpr ⟨((rotation_nodup _).filter _).filter _, ((rotation_nodup _).filter _).filter _, ?_⟩
    rintro a pending b rest rfl
    have one := (List.mem_filter.mp pending).2
    have two := (List.mem_filter.mp rest).2
    simp [one] at two
  · obtain ⟨rotated, member⟩ := inList m mem
    obtain ⟨low, high⟩ := (mem_rotation pointer).mp rotated
    exact ⟨low, high, ((Bool.and_eq_true _ _).mp member).1⟩

/-- A unit without a cycle that comes to its test: it begins one, or it is in order as it stands (R102). -/
theorem pollTest_spec {s : State} (bounds : s.poll.InBounds) (state : s.poll.state ≠ .cycling) (cycle : s.poll.cycle = none)
    (due : s.poll.due = false) (holdoff : s.poll.holdoff.isSome = true ↔ s.poll.state = .holdoff)
    (limit : s.engine.config.phantomLimit ≤ 15) (work : ∀ n, s.engine.work ≠ some (.poll n)) :
    (pollTest s).poll.InBounds ∧ PollStage true none (pollTest s) ∧ (pollTest s).heeds := by
  unfold pollTest
  split
  · rename_i begins
    obtain ⟨idle, -, running⟩ := begins
    have members := (polled_pollSet s (pollBuild s).poll).members (cycleList_members bounds.pointer)
    have below : s.poll.phantomCount ≤ 14 := by simpa [idle] using bounds.below
    have turned := pollTurn_turned (exempt := none) (s := pollBuild s) ⟨bounds.pointer, bounds.phantoms, .inr below⟩
      ⟨rfl, rfl, running, rfl⟩ limit members fun m _ => work m
    exact ⟨turned.bounds, turned.stage, fun _ idle held => absurd held (by simp [turned.released idle])⟩
  · rename_i stays
    exact ⟨bounds, .still state cycle due holdoff, fun _ idle held => Bool.eq_false_iff.mpr fun running => stays ⟨idle, held, running⟩⟩

end Sys2Proof.Machine
end

section
/-! SUPPORT. The line side beside the Poll Unit: the schedule table's entries, what leaves the line side as it is, and the changes to
a station record. -/

namespace Sys2Proof.Machine

/-! ### The schedule table (R131, R133) -/

theorem Entry.ok_iff (e : Entry) : e.ok = true ↔ (e.generation ≤ 255 ∧ e.fireCount ≤ 65535 ∧ e.missCount ≤ 255) ∧
    e.defn.ok = true ∧ (e.state = .empty → e = Entry.cleared e.generation) := by
  unfold Entry.ok
  by_cases empty : e.state = .empty <;> simp [empty, and_assoc]

theorem cleared_ok {g : Nat} (small : g ≤ 255) : (Entry.cleared g).ok = true :=
  (Entry.ok_iff _).mpr ⟨⟨small, by simp [Entry.cleared], by simp [Entry.cleared]⟩,
    (by decide : EntryDef.cleared.ok = true), fun _ => rfl⟩

theorem wrap256_le (n : Nat) : wrap256 n ≤ 255 := by
  unfold wrap256
  omega

theorem scheduleOk_iff (s : State) : s.scheduleOk = true ↔ s.schedule.length = 40 ∧ ∀ e ∈ s.schedule, e.ok = true := by
  unfold State.scheduleOk Config.entryCount
  rw [Bool.and_eq_true, beq_iff_eq, List.all_eq_true]

section
variable {s : State}

theorem entryAt_ok (h : s.scheduleOk = true) (i : Nat) : (s.entryAt i).ok = true := by
  obtain ⟨-, all⟩ := (scheduleOk_iff s).mp h
  unfold State.entryAt
  by_cases inside : i < s.schedule.length
  · rw [List.getD_eq_getElem _ _ inside]
    exact all _ (List.getElem_mem inside)
  · rw [List.getD_eq_default _ _ (Nat.not_lt.mp inside)]
    exact cleared_ok (Nat.zero_le _)

theorem setEntry_ok (h : s.scheduleOk = true) (i : Nat) {e : Entry} (ok : e.ok = true) : (setEntry i e s).scheduleOk = true := by
  obtain ⟨length, all⟩ := (scheduleOk_iff s).mp h
  refine (scheduleOk_iff _).mpr ⟨by simp [setEntry, length], fun f mem => ?_⟩
  obtain old | rfl := List.mem_or_eq_of_mem_set mem
  · exact all f old
  · exact ok

theorem clearLiveTicket_ok (h : s.scheduleOk = true) (i ticket : Nat) : (clearLiveTicket i ticket s).scheduleOk = true := by
  unfold clearLiveTicket
  split
  · obtain ⟨counts, defn, empty⟩ := (Entry.ok_iff _).mp (entryAt_ok h i)
    refine setEntry_ok h i ((Entry.ok_iff _).mpr ⟨counts, defn, fun none => ?_⟩)
    rw [empty none]
    rfl
  · exact h

theorem takeReport_ok (c : Completion) (h : s.scheduleOk = true) : (takeReport c s).scheduleOk = true := by
  cases origin : c.origin with
  | host =>
    have same : takeReport c s = s := by simp only [takeReport, origin]
    rw [same]
    exact h
  | schedule i g =>
    by_cases current : (s.entryAt i).generation = g
    · rw [takeReport_current origin current]
      split <;> exact clearLiveTicket_ok h i c.ticket
    · rw [takeReport_stale origin current]
      exact h

/-- A firing or a miss of an entry in use. -/
theorem fired_ok {e : Entry} (h : e.ok = true) (used : e.state ≠ .empty) (now : Option Timestamp) (live : Option Nat) :
    ((({ e with liveTicket := live } : Entry).fired now).spend).ok = true ∧ (e.missed.spend).ok = true := by
  obtain ⟨⟨generation, fires, misses⟩, defn, -⟩ := (Entry.ok_iff _).mp h
  have counted : bump e.fireCount ≤ 65535 := bump_le _
  have missed : sat 255 e.missCount ≤ 255 := by
    unfold sat
    split <;> omega
  constructor
  · unfold Entry.fired Entry.spend
    split
    · exact (Entry.ok_iff _).mpr ⟨⟨generation, counted, misses⟩, defn, fun none => absurd none used⟩
    · exact (Entry.ok_iff _).mpr ⟨⟨generation, counted, misses⟩, defn, fun none => by cases none⟩
  · unfold Entry.missed Entry.spend
    split
    · exact (Entry.ok_iff _).mpr ⟨⟨generation, fires, missed⟩, defn, fun none => absurd none used⟩
    · exact (Entry.ok_iff _).mpr ⟨⟨generation, fires, missed⟩, defn, fun none => by cases none⟩

end

/-! ### What leaves the line side as it is -/

/-- An engine at work is neither stopped nor IDLE. -/
theorem working_runs {e : LineEngine} (working : e.state = .active ∨ e.state = .held) : e.running = true ∧ e.state ≠ .idle := by
  unfold LineEngine.running
  obtain state | state := working <;> simp [state]

/-- From s to t the line side stands: the engine keeps its work, its station and its configuration, and stays IDLE, stopped or at
work; the queue, the stations and the Poll Unit are unchanged. -/
structure Beside (s t : State) : Prop where
  idle : t.engine.state = .idle ↔ s.engine.state = .idle
  running : t.engine.running = s.engine.running
  work : t.engine.work = s.engine.work
  station : t.engine.station = s.engine.station
  config : t.engine.config = s.engine.config
  queue : t.queue = s.queue
  stations : t.stations = s.stations
  poll : t.poll = s.poll
  vdd : t.vdd = s.vdd
  latnHeld : t.latnHeld = s.latnHeld
  schedule : s.scheduleOk = true → t.scheduleOk = true

namespace Beside
variable {s t u : State}

/-- The engine, the queue and the tables unchanged. -/
theorem of_eq (engine : t.engine = s.engine) (queue : t.queue = s.queue) (stations : t.stations = s.stations)
    (poll : t.poll = s.poll) (vdd : t.vdd = s.vdd) (latnHeld : t.latnHeld = s.latnHeld)
    (schedule : s.scheduleOk = true → t.scheduleOk = true) : Beside s t :=
  ⟨by rw [engine], by rw [engine], by rw [engine], by rw [engine], by rw [engine], queue, stations, poll, vdd, latnHeld, schedule⟩

theorem refl (s : State) : Beside s s := .of_eq rfl rfl rfl rfl rfl rfl id

theorem trans (h : Beside s t) (k : Beside t u) : Beside s u :=
  ⟨k.idle.trans h.idle, k.running.trans h.running, k.work.trans h.work, k.station.trans h.station, k.config.trans h.config,
    k.queue.trans h.queue, k.stations.trans h.stations, k.poll.trans h.poll, k.vdd.trans h.vdd, k.latnHeld.trans h.latnHeld,
    k.schedule ∘ h.schedule⟩

/-- A change of the engine alone, within its work. -/
theorem of_engine {e : LineEngine} (state : e.state = s.engine.state) (work : e.work = s.engine.work)
    (station : e.station = s.engine.station) (config : e.config = s.engine.config) : Beside s { s with engine := e } :=
  ⟨by rw [state], by rw [LineEngine.running, LineEngine.running, state], work, station, config, rfl, rfl, rfl, rfl, rfl, id⟩

/-- A change of the engine alone between ACTIVE and HELD. -/
theorem of_held {e : LineEngine} (before : s.engine.state = .active ∨ s.engine.state = .held) (after : e.state = .active ∨ e.state = .held)
    (work : e.work = s.engine.work) (station : e.station = s.engine.station) (config : e.config = s.engine.config) :
    Beside s { s with engine := e } := by
  obtain ⟨runs, atWork⟩ := working_runs before
  obtain ⟨stillRuns, stillAtWork⟩ := working_runs after
  exact ⟨⟨fun idle => absurd idle stillAtWork, fun idle => absurd idle atWork⟩, stillRuns.trans runs.symm, work, station, config,
    rfl, rfl, rfl, rfl, rfl, id⟩

theorem stationAt (h : Beside s t) (m : Nat) : t.stationAt m = s.stationAt m := by
  unfold State.stationAt
  rw [h.stations]

theorem serves (h : Beside s t) {m : Nat} (serves : s.serves m) : t.serves m := by
  unfold State.serves
  rw [h.stationAt]
  exact serves

theorem members (h : Beside s t) {exempt : Option Nat} {l : List Nat} (m : s.Members exempt l) : t.Members exempt l :=
  ⟨m.distinct, m.low, m.high, fun k mem other => by rw [h.stationAt]; exact m.inService k mem other⟩

theorem cycling (h : Beside s t) {c : Cycle} (k : s.Cycling c) : t.Cycling c := by
  obtain ⟨state, holdoff, running, cycle⟩ := k
  refine ⟨?_, ?_, h.running.trans running, ?_⟩ <;> rw [h.poll] <;> assumption

theorem asks (h : Beside s t) {strict : Bool} {n : Nat} (k : s.Asks strict n) : t.Asks strict n := by
  refine ⟨?_, ?_, ?_⟩
  · rw [h.poll, h.idle]
    exact k.idle
  · rw [h.poll, h.idle]
    exact k.due
  · rw [h.work]
    exact k.work

theorem stage (h : Beside s t) {strict : Bool} {exempt : Option Nat} (k : PollStage strict exempt s) : PollStage strict exempt t := by
  obtain ⟨state, cycle, due, holdoff⟩ | ⟨c, n, cycling, inFlight, request, members, asks⟩ |
    ⟨c, n, cycling, inFlight, request, members, due, work⟩ := k
  · exact .still (h.poll ▸ state) (h.poll ▸ cycle) (h.poll ▸ due) (h.poll ▸ holdoff)
  · exact .presented c n (h.cycling cycling) inFlight request (h.members members) (h.asks asks)
  · exact .granted c n (h.cycling cycling) inFlight request (h.members members) (h.poll ▸ due) (h.work.trans work)

theorem tables (h : Beside s t) (k : s.Tables) : t.Tables := by
  refine ⟨h.schedule k.schedule, ?_, ?_, ?_⟩
  · unfold State.specsOk
    rw [h.queue, h.work]
    exact k.specs
  · rw [h.stations]
    exact k.count
  · rw [h.stations, h.config]
    exact k.records

theorem pollInFlight (h : Beside s t) (k : s.pollInFlight) : t.pollInFlight := by
  unfold State.pollInFlight
  rw [h.work, h.poll]
  exact k

theorem rest (h : Beside s t) {strict : Bool} (k : LineRest strict s) : LineRest strict t :=
  ⟨h.tables k.tables, fun n current => h.serves (k.station n (h.station ▸ current)), h.poll ▸ k.bounds, h.stage k.stage,
    h.pollInFlight k.granted⟩

theorem heeds (h : Beside s t) (k : s.heeds) : t.heeds := by
  unfold State.heeds
  rw [h.vdd, h.poll, h.latnHeld, h.running]
  exact k

theorem idleEmpty (h : Beside s t) (k : s.idleEmpty) : t.idleEmpty := by
  unfold State.idleEmpty
  rw [h.idle, h.queue]
  exact k

end Beside

section
variable (s : State)

theorem beside_raise (b : NoticeBody) : Beside s (raise b s) := .of_eq rfl rfl rfl rfl rfl rfl id

theorem beside_setEntry (i : Nat) (e : Entry) (ok : s.scheduleOk = true → e.ok = true) : Beside s (setEntry i e s) :=
  .of_eq rfl rfl rfl rfl rfl rfl fun h => setEntry_ok h i (ok h)

theorem beside_handCompletion (c : Completion) : Beside s (handCompletion c s) := by
  unfold handCompletion
  split
  · exact beside_raise s _
  · exact .of_eq rfl rfl rfl rfl rfl rfl id

theorem beside_clearLiveTicket (i ticket : Nat) : Beside s (clearLiveTicket i ticket s) := by
  have schedule : s.scheduleOk = true → (clearLiveTicket i ticket s).scheduleOk = true := fun h => clearLiveTicket_ok h i ticket
  unfold clearLiveTicket at schedule ⊢
  split
  · rename_i live
    rw [if_pos live] at schedule
    exact .of_eq rfl rfl rfl rfl rfl rfl schedule
  · exact .refl s

theorem beside_takeReport (c : Completion) : Beside s (takeReport c s) := by
  cases origin : c.origin with
  | host =>
    have same : takeReport c s = s := by simp only [takeReport, origin]
    rw [same]
    exact .refl s
  | schedule i g =>
    by_cases current : (s.entryAt i).generation = g
    · rw [takeReport_current origin current]
      split
      · exact (beside_clearLiveTicket s i _).trans (beside_raise _ _)
      · exact beside_clearLiveTicket s i _
    · rw [takeReport_stale origin current]
      exact .refl s

theorem beside_setReports (l : List Completion) : Beside s { s with reports := l } := .of_eq rfl rfl rfl rfl rfl rfl id

theorem beside_takeNextReport : Beside s (takeNextReport s) := by
  unfold takeNextReport
  split
  · exact (beside_setReports s _).trans (beside_takeReport _ _)
  · exact .refl s

theorem beside_takeReports : Beside s (takeReports s) := by
  have fold : ∀ (l : List Completion) (u : State), Beside u (l.foldl (fun t c => takeReport c t) u) := by
    intro l
    induction l with
    | nil => exact fun u => .refl u
    | cons c rest ih => exact fun u => (beside_takeReport u c).trans (ih _)
  exact (beside_setReports s []).trans (fold _ _)

theorem beside_endReferral (o : TxnOutcome) (r : AttemptResult) : Beside s (endReferral o r s) := by
  unfold endReferral
  split
  · exact beside_raise s _
  · exact .refl s

theorem beside_endReports (r : AttemptResult) (b : State) : Beside s (endReports r b s) := by
  unfold endReports
  split
  · exact beside_takeReports s
  · exact .refl s

end

/-! ### A station record changes (R66, R73, R74) -/

theorem Station.ok_iff (threshold : Nat) (r : Station) : r.ok threshold = true ↔
    (r.failures ≤ threshold ∧ r.subUnits ≤ 15) ∧ (r.state = .undefined → r = Station.cleared) ∧
    (r.state = .silent → r.policy = .staySilent) ∧ (r.state = .quarantined → r.policy = .quarantine) ∧
    r.servicePending = r.lastStatus.any serviceFlag ∧ (r.lastStatus = none → r.lastContact = none) := by
  unfold Station.ok
  rw [beq_eq_decide, ← decide_eq_true_eq (p := (r.servicePending = r.lastStatus.any serviceFlag))]
  cases r.state <;> cases r.lastStatus <;> simp [and_assoc]

theorem stationAt_setStation_same {s : State} {n : Nat} (inside : n - 1 < s.stations.length) (r : Station) :
    (setStation n r s).stationAt n = r := by
  unfold State.stationAt setStation
  dsimp only
  rw [List.getD_eq_getElem _ _ (by rw [List.length_set]; exact inside), List.getElem_set_self]

theorem stationAt_setStation_other {s : State} {n m : Nat} (other : n - 1 ≠ m - 1) (r : Station) :
    (setStation n r s).stationAt m = s.stationAt m := by
  unfold State.stationAt setStation
  dsimp only
  rw [List.getD_eq_getElem?_getD, List.getElem?_set_ne other, ← List.getD_eq_getElem?_getD]

/-- A record written is read at its number, and nothing else changes. -/
theorem stationAt_setStation_cases (n : Nat) (r : Station) (s : State) (m : Nat) :
    (setStation n r s).stationAt m = r ∨ (setStation n r s).stationAt m = s.stationAt m := by
  by_cases same : n - 1 = m - 1
  · by_cases inside : n - 1 < s.stations.length
    · left
      have written := stationAt_setStation_same inside r
      unfold State.stationAt at written ⊢
      rw [← same]
      exact written
    · right
      unfold setStation
      rw [List.set_eq_of_length_le (Nat.not_lt.mp inside)]
  · exact .inr (stationAt_setStation_other same r)

theorem tables_setStation {s : State} (n : Nat) {r : Station} (k : s.Tables)
    (ok : r.ok s.engine.config.failureThreshold = true) : (setStation n r s).Tables := by
  refine ⟨k.schedule, k.specs, ?_, ?_⟩
  · simp only [setStation, List.length_set]
    exact k.count
  · refine List.all_eq_true.mpr fun x mem => ?_
    obtain old | rfl := List.mem_or_eq_of_mem_set mem
    · exact List.all_eq_true.mp k.records x old
    · exact ok

theorem stationAt_ok {s : State} (k : s.Tables) (n : Nat) : (s.stationAt n).ok s.engine.config.failureThreshold = true := by
  unfold State.stationAt
  by_cases inside : n - 1 < s.stations.length
  · rw [List.getD_eq_getElem _ _ inside]
    exact List.all_eq_true.mp k.records _ (List.getElem_mem inside)
  · rw [List.getD_eq_default _ _ (Nat.not_lt.mp inside)]
    simp [Station.ok, Station.cleared]

/-- Members stay members where the record written is one in service, or that of the exempt station. -/
theorem members_setStation {s : State} {l : List Nat} (n : Nat) {r : Station} (exempt : Option Nat)
    (m : s.Members none l) (allowed : (1 ≤ n ∧ exempt = some n) ∨ r.inService = true) : (setStation n r s).Members exempt l := by
  refine ⟨m.distinct, m.low, m.high, fun k mem other => ?_⟩
  have before := m.inService k mem (by simp)
  obtain new | same := stationAt_setStation_cases n r s k
  · obtain ⟨low, rfl⟩ | serves := allowed
    · have apart : n - 1 ≠ k - 1 := by
        have positive := m.low k mem
        have distinct : n ≠ k := fun same => other (by rw [same])
        omega
      rw [stationAt_setStation_other apart]
      exact before
    · rw [new]
      exact serves
  · rw [same]
    exact before

/-- A stage in order stays one, but for the exempt station. -/
theorem stage_setStation {s : State} {strict : Bool} (n : Nat) {r : Station} (exempt : Option Nat)
    (k : PollStage strict none s) (allowed : (1 ≤ n ∧ exempt = some n) ∨ r.inService = true) :
    PollStage strict exempt (setStation n r s) := by
  obtain ⟨state, cycle, due, holdoff⟩ | ⟨c, m, ⟨state, holdoff, running, cycle⟩, inFlight, request, members, ⟨idle, due, work⟩⟩ |
    ⟨c, m, ⟨state, holdoff, running, cycle⟩, inFlight, request, members, due, work⟩ := k
  · exact .still state cycle due holdoff
  · exact .presented c m ⟨state, holdoff, running, cycle⟩ inFlight request (members_setStation n exempt members allowed)
      ⟨idle, due, work⟩
  · exact .granted c m ⟨state, holdoff, running, cycle⟩ inFlight request (members_setStation n exempt members allowed) due work

theorem serves_setStation {s : State} (n : Nat) {r : Station} {m : Nat} (h : s.serves m) (inService : r.inService = true) :
    (setStation n r s).serves m := by
  refine ⟨h.1, h.2.1, ?_⟩
  obtain new | same := stationAt_setStation_cases n r s m
  · rw [new]
    exact inService
  · rw [same]
    exact h.2.2

/-- A station put into service. -/
theorem rest_setStation {s : State} {strict : Bool} (n : Nat) {r : Station} (k : LineRest strict s)
    (ok : r.ok s.engine.config.failureThreshold = true) (inService : r.inService = true) : LineRest strict (setStation n r s) :=
  ⟨tables_setStation n k.tables ok, fun m current => serves_setStation n (k.station m current) inService, k.bounds,
    stage_setStation n none k.stage (.inr inService), k.granted⟩

/-- A station record after a report on a station in service (R73, R74). -/
theorem reported_ok {r : Station} {threshold : Nat} (reply : Option Reply) (failed : Bool) (now : Option Timestamp)
    (ok : r.ok threshold = true) (inService : r.inService = true) : (r.reported reply failed threshold now).ok threshold = true ∧
      ((r.reported reply failed threshold now).inService = true ∨ (r.reported reply failed threshold now).state = .quarantined) := by
  have contact : ∀ y, (r.contact y now).ok threshold = true ∧ (r.contact y now).inService = true := by
    intro y
    obtain ⟨⟨-, subUnits⟩, undefined, silent, quarantined, -, -⟩ := (Station.ok_iff _ _).mp ok
    unfold Station.inService at inService
    unfold Station.contact
    rw [Station.ok_iff]
    cases state : r.state <;> simp_all [Station.inService]
  have failure : ∀ q : Station, q.ok threshold = true → q.inService = true → (q.failure threshold).ok threshold = true ∧
      ((q.failure threshold).inService = true ∨ (q.failure threshold).state = .quarantined) := by
    intro q okQ serves
    obtain ⟨⟨failures, subUnits⟩, undefined, silent, quarantined, service, contact⟩ := (Station.ok_iff _ _).mp okQ
    unfold Station.failure
    split
    · rename_i less
      unfold Station.inService at serves ⊢
      rw [Station.ok_iff]
      dsimp only
      split
      · cases policy : q.policy <;> simp_all [Policy.failState]
      · exact ⟨⟨⟨less, subUnits⟩, fun none => by simp [none] at serves, silent, quarantined, service, contact⟩, .inl serves⟩
    · exact ⟨okQ, .inl serves⟩
  unfold Station.reported
  dsimp only
  cases reply with
  | none =>
    cases failed
    · exact ⟨ok, .inl inService⟩
    · exact failure r ok inService
  | some y =>
    obtain ⟨okY, servesY⟩ := contact y
    cases failed
    · exact ⟨okY, .inl servesY⟩
    · exact failure _ okY servesY

end Sys2Proof.Machine
end

section
/-! SUPPORT. The line side in a step: what stopping the engine, a station that leaves service, the end of work, the grant and a
resume make of it, and that every act keeps it consistent. -/

namespace Sys2Proof.Machine

/-! ### The Poll Unit's record (R101) -/

/-- What a Poll Unit's record has to be whatever the engine does. -/
def PollUnit.Shape (p : PollUnit) : Prop :=
  (p.state = .cycling ∧ p.holdoff = none) ∨
    (p.state ≠ .cycling ∧ p.cycle = none ∧ p.due = false ∧ (p.holdoff.isSome = true ↔ p.state = .holdoff))

theorem PollStage.shape {strict : Bool} {exempt : Option Nat} {s : State} (h : PollStage strict exempt s) : s.poll.Shape := by
  obtain ⟨state, cycle, due, holdoff⟩ | ⟨c, n, cycling, -⟩ | ⟨c, n, cycling, -⟩ := h
  · exact .inr ⟨state, cycle, due, holdoff⟩
  · exact .inl ⟨cycling.state, cycling.holdoff⟩
  · exact .inl ⟨cycling.state, cycling.holdoff⟩

theorem phantomLimit_le {e : LineEngine} (b : e.InBounds) : e.config.phantomLimit ≤ 15 := by
  have ok := b.config
  simp only [LineConfig.ok, decide_eq_true_eq] at ok
  omega

theorem Polled.tables {s t : State} (h : Polled s t) (k : s.Tables) : t.Tables := by
  refine ⟨?_, ?_, ?_, ?_⟩
  · rw [scheduleOk_iff, h.schedule, ← scheduleOk_iff]
    exact k.schedule
  · unfold State.specsOk
    rw [h.told.queue, h.work]
    exact k.specs
  · rw [h.stations]
    exact k.count
  · rw [h.stations, h.config]
    exact k.records

theorem Polled.atStation {s t : State} (h : Polled s t) (k : ∀ n, s.engine.station = some n → s.serves n) :
    ∀ n, t.engine.station = some n → t.serves n := fun n current => (h.serves n).mpr (k n (h.station ▸ current))

theorem heeds_of_stopped {s : State} (stopped : s.engine.running = false) : s.heeds := fun _ _ _ => stopped

/-- An engine that stops leaves no cycle behind (R110). -/
theorem rest_pollEngineStopped {s : State} (strict : Bool) (tables : s.Tables) (station : s.engine.station = none)
    (work : s.engine.work = none) (bounds : s.poll.InBounds) (shape : s.poll.Shape) : LineRest strict (pollEngineStopped s) := by
  have polled := polled_pollEngineStopped s
  have noWork : (pollEngineStopped s).engine.work = none := polled.work.trans work
  refine ⟨polled.tables tables, fun n current => ?_, ?_, ?_, fun n current => ?_⟩
  · exact absurd (current.symm.trans (polled.station.trans station)) (by simp)
  · unfold pollEngineStopped
    split
    · rename_i cycling
      have below : s.poll.phantomCount ≤ 14 := by simpa [cycling] using bounds.below
      exact ⟨bounds.pointer, bounds.phantoms, .inr below⟩
    · exact bounds
  · unfold pollEngineStopped
    obtain ⟨cycling, holdoff⟩ | ⟨other, cycle, due, holdoff⟩ := shape
    · rw [if_pos cycling]
      exact .still (by simp) rfl rfl (by simp [holdoff])
    · rw [if_neg other]
      exact .still other cycle due holdoff
  · exact absurd (current.symm.trans noWork) (by simp)

/-! ### A station leaves service (R79, R112) -/

/-- No cycle has its poll granted. -/
def State.noneGranted (s : State) : Prop := ∀ c, s.poll.cycle = some c → c.request ≠ .granted

/-- The Poll Unit is told of a station that is not the engine's: without it, the stage is in order again. -/
theorem pollStationGone_spec {s : State} {n : Nat} (bounds : s.poll.InBounds) (stage : PollStage true (some n) s)
    (limit : s.engine.config.phantomLimit ≤ 15)
    (idle : ∀ c, s.poll.cycle = some c → c.inFlight = some n → c.request ≠ .granted ∧ ∀ m ∈ c.remaining, s.engine.work ≠ some (.poll m)) :
    (pollStationGone n s).poll.InBounds ∧ PollStage true none (pollStationGone n s) ∧
      (s.noneGranted → (pollStationGone n s).noneGranted) ∧ (s.pollInFlight → (pollStationGone n s).pollInFlight) ∧
      (s.heeds → (pollStationGone n s).heeds) := by
  have filtered : ∀ {c : Cycle} {k : Nat}, k ≠ n → s.Members (some n) (k :: c.remaining) → ∀ p : PollUnit,
      State.Members { s with poll := p } none (k :: c.remaining.filter (· != n)) := by
    intro c k other members p
    have sub : (k :: c.remaining.filter (· != n)).Sublist (k :: c.remaining) := List.filter_sublist.cons_cons k
    refine ⟨members.distinct.sublist sub, fun m mem => members.low m (sub.subset mem), fun m mem => members.high m (sub.subset mem),
      fun m mem _ => ?_⟩
    refine members.inService m (sub.subset mem) ?_
    rintro same
    obtain rfl := Option.some.inj same
    obtain head | rest := List.mem_cons.mp mem
    · exact other head.symm
    · simp at rest
  unfold pollStationGone
  obtain ⟨state, cycle, due, holdoff⟩ | ⟨c, k, cycling, inFlight, request, members, asks⟩ |
    ⟨c, k, cycling, inFlight, request, members, due, work⟩ := stage
  · rw [cycle]
    exact ⟨bounds, .still state cycle due holdoff, id, id, id⟩
  · have none : s.pollInFlight → ∀ m, s.engine.work ≠ some (.poll m) := by
      intro running m current
      obtain ⟨d, same, -, granted⟩ := running m current
      obtain rfl := Option.some.inj (cycling.cycle.symm.trans same)
      exact absurd (request.symm.trans granted) (by simp)
    rw [cycling.cycle]
    dsimp only
    split
    · rename_i gone
      obtain ⟨-, other⟩ := idle c cycling.cycle gone.1
      obtain rfl : k = n := Option.some.inj (inFlight.symm.trans gone.1)
      have remaining : State.Members { s with poll := { s.poll with
          cycle := some { c with inFlight := Option.none, request := .none }, due := false } } Option.none c.remaining := by
        refine ⟨members.distinct.of_cons, fun m mem => members.low m (.tail _ mem), fun m mem => members.high m (.tail _ mem), fun m mem _ => ?_⟩
        refine members.inService m (.tail _ mem) ?_
        rintro same
        obtain rfl := Option.some.inj same
        exact (List.nodup_cons.mp members.distinct).1 mem
      have polled := polled_pollTurn { s with poll := { s.poll with
          cycle := some { c with inFlight := Option.none, request := .none }, due := false } }
      have turned := pollTurn_turned (s := { s with poll := { s.poll with
          cycle := some { c with inFlight := Option.none, request := .none }, due := false } })
        ⟨bounds.pointer, bounds.phantoms, bounds.below⟩ ⟨cycling.state, cycling.holdoff, cycling.running, rfl⟩ limit remaining other
      refine ⟨turned.bounds, turned.stage, fun _ => turned.free, fun running m current => ?_, fun _ _ idle held => ?_⟩
      · exact absurd (polled.work.symm.trans current) (none running m)
      · exact absurd held (by simp [turned.released idle])
    · rename_i stays
      have other : k ≠ n := by
        rintro rfl
        exact stays ⟨inFlight, request⟩
      refine ⟨⟨bounds.pointer, bounds.phantoms, bounds.below⟩, .presented _ k ⟨cycling.state, cycling.holdoff, cycling.running, rfl⟩ inFlight
        request (filtered other members _) ⟨asks.idle, asks.due, asks.work⟩, fun _ d same => ?_, fun running m current => ?_, id⟩
      · obtain rfl := Option.some.inj same
        rw [request]
        simp
      · exact absurd current (none running m)
  · have other : k ≠ n := by
      rintro rfl
      exact (idle c cycling.cycle inFlight).1 request
    have stays : ¬ (c.inFlight = some n ∧ c.request = .presented) := by simp [request]
    rw [cycling.cycle]
    dsimp only
    rw [if_neg stays]
    refine ⟨⟨bounds.pointer, bounds.phantoms, bounds.below⟩, .granted _ k ⟨cycling.state, cycling.holdoff, cycling.running, rfl⟩ inFlight
      request (filtered other members _) due work, fun free => absurd request (free c cycling.cycle), fun running m current => ?_, id⟩
    obtain ⟨d, same, flight, granted⟩ := running m current
    obtain rfl := Option.some.inj (cycling.cycle.symm.trans same)
    exact ⟨_, rfl, flight, granted⟩

/-! ### The end of a poll (R105, R106, R111) -/

/-- After the hand-over of a poll's end: the unit has turned to the next member, or the cycle is abandoned. -/
theorem pollReport_spec {s : State} {n : Nat} {c : Cycle} (r : AttemptResult) (last : Option Reply) (bounds : s.poll.InBounds)
    (cycling : s.Cycling c) (high : n ≤ 30) (members : s.Members (some n) (n :: c.remaining)) (work : s.engine.work = some (.poll n))
    (limit : s.engine.config.phantomLimit ≤ 15) :
    (pollReport n r last s).poll.InBounds ∧ PollStage true (some n) (pollReport n r last s) ∧ (pollReport n r last s).noneGranted ∧
      (r ≠ .lineFault → (pollReport n r last s).heeds) := by
  have polled := polled_pollService n last s
  have served : (pollService n last s).poll.InBounds ∧ ∃ seen, (pollService n last s).Cycling { c with serviceSeen := seen } := by
    have running := polled.running.trans cycling.running
    unfold pollService at running ⊢
    repeat' split
    · exact ⟨⟨high, bounds.phantoms, bounds.below⟩, true, ⟨cycling.state, cycling.holdoff, cycling.running, by
        show s.poll.cycle.map _ = _
        rw [cycling.cycle]
        rfl⟩⟩
    · exact ⟨bounds, c.serviceSeen, cycling⟩
    · exact ⟨bounds, c.serviceSeen, cycling⟩
  obtain ⟨bounds1, seen, ⟨state, holdoff, running, cycle⟩⟩ := served
  have below : (pollService n last s).poll.phantomCount ≤ 14 := by simpa [state] using bounds1.below
  unfold pollReport
  dsimp only
  split
  · rename_i fault
    unfold pollEngineStopped
    rw [if_pos state]
    exact ⟨⟨bounds1.pointer, bounds1.phantoms, .inr below⟩, .still (by simp) rfl rfl (by simp [holdoff]), by simp [State.noneGranted],
      fun other => absurd fault other⟩
  · have distinct := List.nodup_cons.mp members.distinct
    have rest : s.Members (some n) c.remaining := ⟨distinct.2, fun m mem => members.low m (.tail _ mem),
      fun m mem => members.high m (.tail _ mem), fun m mem => members.inService m (.tail _ mem)⟩
    have turned := pollTurn_turned (exempt := some n) (c := { c with serviceSeen := seen, inFlight := none, request := .none })
      (s := { pollService n last s with poll := { (pollService n last s).poll with
        cycle := (pollService n last s).poll.cycle.map (fun c => { c with inFlight := none, request := .none }) } })
      ⟨bounds1.pointer, bounds1.phantoms, bounds1.below⟩ ⟨state, holdoff, running, by simp only [cycle, Option.map_some]⟩
      (polled.config ▸ limit) ((polled.trans (polled_pollSet _ _)).members rest) fun m mem current => ?_
    · exact ⟨turned.bounds, turned.stage, turned.free, fun _ _ idle held => absurd held (by simp [turned.released idle])⟩
    · have same : some (Work.poll n) = some (.poll m) := work.symm.trans (polled.work.symm.trans current)
      obtain rfl : n = m := by simpa using same
      exact distinct.1 mem

/-! ### The end of work (R53) -/

/-- The line side inside an end of work: the report of step 1 may have quarantined the current station, which its cycle then still
names. Once the result is handed over no poll is granted, and after a line fault an abandoned cycle leaves LATN unheeded. -/
structure Ending (handed : Bool) (r : AttemptResult) (s : State) : Prop where
  tables : s.Tables
  station : ∀ n, s.engine.station = some n →
    (1 ≤ n ∧ n ≤ 30) ∧ ((s.stationAt n).inService = true ∨ (s.stationAt n).state = .quarantined)
  bounds : s.poll.InBounds
  stage : PollStage true s.engine.station s
  granted : handed = false → s.pollInFlight
  free : handed = true → s.noneGranted
  heeds : handed = false ∨ r ≠ .lineFault → s.heeds

section
variable {handed : Bool} {r : AttemptResult} {s t : State}

theorem Beside.ending (h : Beside s t) (k : Ending handed r s) : Ending handed r t := by
  refine ⟨h.tables k.tables, fun n current => ?_, h.poll ▸ k.bounds, ?_, fun no => h.pollInFlight (k.granted no), fun yes => ?_,
    fun when => h.heeds (k.heeds when)⟩
  · rw [h.stationAt]
    exact k.station n (h.station ▸ current)
  · rw [h.station]
    exact h.stage k.stage
  · unfold State.noneGranted
    rw [h.poll]
    exact k.free yes

/-- Step 1: the report on the current station (R52, R72). -/
theorem ending_endReport (k : LineRest true s) (heeds : s.heeds) : Ending false r (endReport r s) := by
  have unreported : s.engine.station = none → Ending false r s := fun station =>
    ⟨k.tables, fun n current => absurd (current.symm.trans station) (by simp), k.bounds, station ▸ k.stage, fun _ => k.granted,
      by simp, fun _ => heeds⟩
  have written : ∀ n x, s.engine.station = some n → x.ok s.engine.config.failureThreshold = true →
      (x.inService = true ∨ x.state = .quarantined) → Ending false r (setStation n x s) := by
    intro n x station ok state
    obtain ⟨low, high, -⟩ := k.station n station
    have inside : n - 1 < s.stations.length := by
      rw [k.tables.count]
      omega
    refine ⟨tables_setStation n k.tables ok, fun m current => ?_, k.bounds, ?_, fun _ => k.granted, by simp, fun _ => heeds⟩
    · obtain rfl : n = m := Option.some.inj (station.symm.trans current)
      rw [stationAt_setStation_same inside]
      exact ⟨⟨low, high⟩, state⟩
    · exact stage_setStation n s.engine.station k.stage (.inl ⟨low, station⟩)
  unfold endReport
  split
  · rename_i n station
    obtain ⟨ok, state⟩ := reported_ok s.engine.lastReply r.failure?.isSome s.cal.stamp (stationAt_ok k.tables n)
      (k.station n station).2.2
    unfold stationReport
    dsimp only
    split
    · exact written n _ station ok state
    · exact (beside_raise _ _).ending (written n _ station ok state)
  · rename_i station
    exact unreported station

/-- Step 2: the hand-over of the result (R53, R105). -/
theorem ending_endHandOver {w : Work} (o : TxnOutcome) (k : Ending false r s) (h : s.engine.Works w)
    (limit : s.engine.config.phantomLimit ≤ 15) : Ending true r (endHandOver o r s) := by
  unfold endHandOver
  rw [h.work]
  cases w with
  | transaction t =>
    have kept : Ending true r s := by
      refine ⟨k.tables, k.station, k.bounds, k.stage, by simp, fun _ c cycle granted => ?_, fun _ => k.heeds (.inl rfl)⟩
      obtain ⟨-, none, -, -⟩ | ⟨d, n, cycling, -, request, -⟩ | ⟨d, n, -, -, -, -, -, work⟩ := k.stage
      · exact absurd (cycle.symm.trans none) (by simp)
      · obtain rfl := Option.some.inj (cycling.cycle.symm.trans cycle)
        exact absurd (request.symm.trans granted) (by simp)
      · exact absurd (h.work.symm.trans work) (by simp)
    exact (beside_handCompletion s _).ending kept
  | poll n =>
    have station : s.engine.station = some n := h.station
    obtain ⟨c, cycle, inFlight, request⟩ := k.granted rfl n h.work
    obtain ⟨⟨-, high⟩, -⟩ := k.station n station
    have cycling : s.Cycling c ∧ s.Members (some n) (n :: c.remaining) := by
      have same : ∀ d m, s.Cycling d → d.inFlight = some m → d = c ∧ m = n := by
        intro d m other flight
        obtain rfl := Option.some.inj (other.cycle.symm.trans cycle)
        exact ⟨rfl, Option.some.inj (flight.symm.trans inFlight)⟩
      have stage := k.stage
      rw [station] at stage
      obtain ⟨-, none, -, -⟩ | ⟨d, m, cycling, flight, asked, members, -⟩ | ⟨d, m, cycling, flight, -, members, -⟩ := stage
      · exact absurd (cycle.symm.trans none) (by simp)
      · obtain ⟨rfl, rfl⟩ := same d m cycling flight
        exact absurd (asked.symm.trans request) (by simp)
      · obtain ⟨rfl, rfl⟩ := same d m cycling flight
        exact ⟨cycling, members⟩
    have polled : Polled s (pollReport n r s.engine.lastReply s) := by
      unfold pollReport
      split
      · exact (polled_pollService n _ s).trans (polled_pollEngineStopped _)
      · exact (polled_pollService n _ s).trans ((polled_pollSet _ _).trans (polled_pollTurn _))
    obtain ⟨bounds, stage, free, heeds⟩ := pollReport_spec r s.engine.lastReply k.bounds cycling.1 high cycling.2 h.work limit
    refine ⟨polled.tables k.tables, fun m current => ?_, bounds, ?_, by simp, fun _ => free, fun when => heeds (by simpa using when)⟩
    · rw [polled.stationAt]
      exact k.station m (polled.station ▸ current)
    · rw [polled.station, station]
      exact stage

/-- The line side of an end of work behind the Poll Unit's last act (R79). -/
structure EndedLine (r : AttemptResult) (s : State) : Prop where
  tables : s.Tables
  bounds : s.poll.InBounds
  stage : PollStage true none s
  free : s.noneGranted
  heeds : r ≠ .lineFault → s.heeds

/-- A station that the report quarantined has left its cycle. -/
theorem ended_endMember {before : State} {w : Work} (k : Ending true r s) (h : s.engine.Works w)
    (limit : s.engine.config.phantomLimit ≤ 15) (same : before.engine.station = s.engine.station)
    (served : ∀ n, s.engine.station = some n → (before.stationAt n).state ≠ .quarantined) : EndedLine r (endMember before s) := by
  have stays : (∀ n, s.engine.station = some n → (s.stationAt n).inService = true) → EndedLine r s := by
    intro inService
    have members : ∀ {l}, s.Members s.engine.station l → s.Members none l := fun m =>
      ⟨m.distinct, m.low, m.high, fun j mem _ => by
        by_cases current : s.engine.station = some j
        · exact inService j current
        · exact m.inService j mem current⟩
    refine ⟨k.tables, k.bounds, ?_, k.free rfl, fun other => k.heeds (.inr other)⟩
    obtain ⟨state, cycle, due, holdoff⟩ | ⟨c, n, cycling, inFlight, request, m, asks⟩ | ⟨c, n, cycling, inFlight, request, m, due, work⟩ :=
      k.stage
    · exact .still state cycle due holdoff
    · exact .presented c n cycling inFlight request (members m) asks
    · exact .granted c n cycling inFlight request (members m) due work
  unfold endMember
  rw [same]
  split
  · rename_i n station
    split
    · have polled := polled_pollStationGone n s
      have stage := k.stage
      rw [station] at stage
      have idle : ∀ c, s.poll.cycle = some c → c.inFlight = some n →
          c.request ≠ .granted ∧ ∀ m ∈ c.remaining, s.engine.work ≠ some (.poll m) := by
        intro c cycle inFlight
        have apart : s.engine.work ≠ some (.poll n) := by
          obtain ⟨-, none, -, -⟩ | ⟨d, m, cycling, flight, -, -, asks⟩ | ⟨d, m, cycling, -, request, -⟩ := stage
          · exact absurd (cycle.symm.trans none) (by simp)
          · obtain rfl := Option.some.inj (cycling.cycle.symm.trans cycle)
            obtain rfl : m = n := Option.some.inj (flight.symm.trans inFlight)
            exact asks.work
          · exact absurd request (k.free rfl d cycling.cycle)
        refine ⟨k.free rfl c cycle, fun m _ current => ?_⟩
        obtain rfl : w = .poll m := Option.some.inj (h.work.symm.trans current)
        obtain rfl : m = n := Option.some.inj (h.station.symm.trans station)
        exact apart current
      obtain ⟨bounds, after, free, -, heeds⟩ := pollStationGone_spec k.bounds stage limit idle
      exact ⟨polled.tables k.tables, bounds, after, free (k.free rfl), fun other => heeds (k.heeds (.inr other))⟩
    · rename_i notGone
      refine stays fun m current => ?_
      obtain rfl : n = m := Option.some.inj (station.symm.trans current)
      obtain serves | gone := (k.station n station).2
      · exact serves
      · exact absurd ⟨served n station, gone⟩ notGone
  · rename_i none
    exact stays fun m current => absurd (current.symm.trans none) (by simp)

theorem EndedLine.cleared (k : EndedLine r s) (active : s.engine.state = .active) :
    (clearWork s).Tables ∧ s.poll.Shape ∧ s.poll.due = false := by
  refine ⟨⟨k.tables.schedule, ?_, k.tables.count, k.tables.records⟩, k.stage.shape, ?_⟩
  · have specs := k.tables.specs
    unfold State.specsOk at specs ⊢
    obtain ⟨queued, -⟩ := (Bool.and_eq_true _ _).mp specs
    exact (Bool.and_eq_true _ _).mpr ⟨queued, rfl⟩
  · obtain ⟨-, -, due, -⟩ | ⟨_, _, -, -, -, -, asks⟩ | ⟨_, _, -, -, -, -, due, -⟩ := k.stage
    · exact due
    · refine Bool.eq_false_iff.mpr fun due => ?_
      exact absurd (active.symm.trans (asks.idle due)) (by simp)
    · exact due

/-- A stopped engine keeps its state. -/
theorem enterPaused_stopped (s : State) : (enterPaused s).engine.running = false :=
  (polled_pollEngineStopped _).running.trans rfl

theorem enterFault_stopped (s : State) : (enterFault s).engine.running = false :=
  (polled_pollEngineStopped _).running.trans rfl

theorem idleEmpty_of_stopped (stopped : s.engine.running = false) : s.idleEmpty := by
  intro idle
  rw [LineEngine.running, idle] at stopped
  cases stopped

/-- Entering PAUSED without work leaves the line side in order (R110). -/
theorem rest_enterPaused (strict : Bool) (tables : s.Tables) (station : s.engine.station = none) (work : s.engine.work = none)
    (bounds : s.poll.InBounds) (shape : s.poll.Shape) : LineRest strict (enterPaused s) :=
  rest_pollEngineStopped strict ⟨tables.schedule, tables.specs, tables.count, tables.records⟩ station work bounds shape

theorem rest_enterFault (strict : Bool) (tables : s.Tables) (station : s.engine.station = none) (work : s.engine.work = none)
    (bounds : s.poll.InBounds) (shape : s.poll.Shape) : LineRest strict (enterFault s) :=
  rest_pollEngineStopped strict ⟨tables.schedule, tables.specs, tables.count, tables.records⟩ station work bounds shape

/-- Steps 3 and 4: the work is cleared and the state changes (R53). -/
theorem rest_endState (k : EndedLine r s) (active : s.engine.state = .active) :
    LineRest false (endState r (clearWork s)) ∧ (endState r (clearWork s)).heeds := by
  obtain ⟨tables, shape, due⟩ := k.cleared active
  unfold endState
  split
  · exact ⟨rest_enterFault false tables rfl rfl k.bounds shape, heeds_of_stopped (enterFault_stopped _)⟩
  · rename_i noFault
    split
    · exact ⟨rest_enterPaused false tables rfl rfl k.bounds shape, heeds_of_stopped (enterPaused_stopped _)⟩
    · refine ⟨⟨⟨tables.schedule, tables.specs, tables.count, tables.records⟩, fun n current => (by cases current), k.bounds, ?_,
        fun n current => (by cases current)⟩, fun powered idle held => ?_⟩
      · obtain ⟨state, cycle, due, holdoff⟩ | ⟨c, n, cycling, inFlight, request, members, asks⟩ | ⟨c, n, cycling, -, request, -⟩ := k.stage
        · exact .still state cycle due holdoff
        · refine .presented c n ⟨cycling.state, cycling.holdoff, rfl, cycling.cycle⟩ inFlight request
            ⟨members.distinct, members.low, members.high, members.inService⟩ ⟨fun _ => rfl, by simp, by simp [clearWork]⟩
        · exact absurd request (k.free c cycling.cycle)
      · have stopped := k.heeds noFault powered idle held
        rw [LineEngine.running, active] at stopped
        cases stopped

/-- The end of work of an ACTIVE engine. -/
theorem rest_endWork {w : Work} (o : TxnOutcome) (r : AttemptResult) (k : LineRest true s) (heeds : s.heeds) (h : s.engine.Works w)
    (active : s.engine.state = .active) (limit : s.engine.config.phantomLimit ≤ 15) :
    LineRest false (endWork o r s) ∧ (endWork o r s).heeds := by
  have told1 : Told s (endReferral o r (endReport r s)) := (told_endReport r s).trans (told_endReferral o r _)
  have told2 : Told s (endReports r s (endHandOver o r (endReferral o r (endReport r s)))) :=
    told1.trans ((told_endHandOver o r _).trans (told_endReports r s _))
  have works : ∀ {t}, Told s t → t.engine.Works w ∧ t.engine.config.phantomLimit ≤ 15 ∧ t.engine.station = s.engine.station := by
    intro t told
    obtain ⟨n, eq, -⟩ := told.engine
    rw [eq]
    exact ⟨⟨h.work, h.station, h.attempts⟩, limit, rfl⟩
  obtain ⟨works1, limit1, -⟩ := works told1
  obtain ⟨works2, limit2, station2⟩ := works told2
  have reported := (beside_endReferral _ o r).ending (ending_endReport (r := r) k heeds)
  have handed := (beside_endReports _ r s).ending (ending_endHandOver o reported works1 limit1)
  have ended := ended_endMember (before := s) handed works2 limit2 station2.symm fun n current gone => by
    have serves := (k.station n (station2 ▸ current)).2.2
    rw [Station.inService, gone] at serves
    cases serves
  rw [endWork_eq]
  refine rest_endState ended ?_
  obtain ⟨n, eq, -⟩ := (told_endTaken o r s).engine
  show (endTaken o r s).engine.state = .active
  rw [eq]
  exact active

end

end Sys2Proof.Machine
end

section
/-! SUPPORT. The line side in a step, continued: the grant, a resume, a start, and every act. -/

namespace Sys2Proof.Machine

/-! ### The grant (R46, R47) -/

section
variable {s t : State}

theorem LineRest.loosen {strict : Bool} (k : LineRest strict s) : LineRest false s := by
  refine ⟨k.tables, k.station, k.bounds, ?_, k.granted⟩
  obtain ⟨state, cycle, due, holdoff⟩ | ⟨c, n, cycling, inFlight, request, members, asks⟩ |
    ⟨c, n, cycling, inFlight, request, members, due, work⟩ := k.stage
  · exact .still state cycle due holdoff
  · exact .presented c n cycling inFlight request members ⟨asks.idle, by simp, asks.work⟩
  · exact .granted c n cycling inFlight request members due work

/-- A request that no grant decision can take leaves nothing loose. -/
theorem LineRest.tighten (k : LineRest false s) (decided : s.engine.state = .idle → s.poll.presented = none) : LineRest true s := by
  refine ⟨k.tables, k.station, k.bounds, ?_, k.granted⟩
  obtain ⟨state, cycle, due, holdoff⟩ | ⟨c, n, cycling, inFlight, request, members, asks⟩ |
    ⟨c, n, cycling, inFlight, request, members, due, work⟩ := k.stage
  · exact .still state cycle due holdoff
  · refine .presented c n cycling inFlight request members ⟨asks.idle, fun _ idle => ?_, asks.work⟩
    refine Bool.not_eq_false _ ▸ fun undue => ?_
    have none := decided idle
    unfold PollUnit.presented at none
    rw [cycling.cycle] at none
    dsimp only at none
    rw [if_pos ⟨request, undue⟩, inFlight] at none
    cases none
  · exact .granted c n cycling inFlight request members due work

/-- The presented request is that of the cycle in flight. -/
theorem presented_cases {n : Nat} (h : s.poll.presented = some n) :
    ∃ c, s.poll.cycle = some c ∧ c.inFlight = some n ∧ c.request = .presented := by
  unfold PollUnit.presented at h
  split at h
  · rename_i c cycle
    split at h
    · rename_i asked
      exact ⟨c, cycle, h, asked.1⟩
    · cases h
  · cases h

/-- A change of the queue that keeps its transactions in range. -/
theorem LineRest.queue {strict : Bool} (k : LineRest strict s) {q : DispatchQueue} (ok : q.order.all (fun y => y.spec.ok) = true) :
    LineRest strict { s with queue := q } := by
  have specs : ({ s with queue := q } : State).specsOk = true := by
    have old := k.tables.specs
    unfold State.specsOk at old ⊢
    obtain ⟨-, work⟩ := (Bool.and_eq_true _ _).mp old
    exact (Bool.and_eq_true _ _).mpr ⟨ok, work⟩
  refine ⟨⟨k.tables.schedule, specs, k.tables.count, k.tables.records⟩, k.station, k.bounds, ?_, k.granted⟩
  obtain ⟨state, cycle, due, holdoff⟩ | ⟨c, n, ⟨state, holdoff, running, cycle⟩, inFlight, request, ⟨distinct, low, high, inService⟩, ⟨idle, due, work⟩⟩ |
    ⟨c, n, ⟨state, holdoff, running, cycle⟩, inFlight, request, ⟨distinct, low, high, inService⟩, due, work⟩ := k.stage
  · exact .still state cycle due holdoff
  · exact .presented c n ⟨state, holdoff, running, cycle⟩ inFlight request ⟨distinct, low, high, inService⟩ ⟨idle, due, work⟩
  · exact .granted c n ⟨state, holdoff, running, cycle⟩ inFlight request ⟨distinct, low, high, inService⟩ due work

theorem specs_cons {q : DispatchQueue} {x : Transaction} (head : s.queue.takeHead = some (x, q)) (specs : s.specsOk = true) :
    x.spec.ok = true ∧ q.order.all (fun y => y.spec.ok) = true := by
  unfold State.specsOk at specs
  obtain ⟨queued, -⟩ := (Bool.and_eq_true _ _).mp specs
  rw [takeHead_order head, List.all_cons, Bool.and_eq_true] at queued
  exact queued

/-- A poll is granted (R47, R48). -/
theorem rest_grantPoll {n : Nat} (k : LineRest false s) (chosen : s.poll.presented = some n) : LineRest true (grantPoll n s) := by
  obtain ⟨d, cycle, flight, asked⟩ := presented_cases chosen
  obtain ⟨-, none, -, -⟩ | ⟨c, m, cycling, inFlight, request, members, asks⟩ | ⟨c, m, cycling, -, request, -⟩ := k.stage
  · exact absurd (cycle.symm.trans none) (by simp)
  · obtain rfl := Option.some.inj (cycling.cycle.symm.trans cycle)
    obtain rfl : m = n := Option.some.inj (inFlight.symm.trans flight)
    have serves : ∀ j, some m = some j → s.serves j := by
      intro j same
      obtain rfl := Option.some.inj same
      exact (members_iff.mp members).2 m List.mem_cons_self
    have running : (grantPoll m s).poll.cycle = some { c with request := .granted } := by
      show s.poll.cycle.map _ = _
      rw [cycle]
      rfl
    have specs : (grantPoll m s).specsOk = true := by
      have old := k.tables.specs
      unfold State.specsOk at old ⊢
      obtain ⟨queued, -⟩ := (Bool.and_eq_true _ _).mp old
      exact (Bool.and_eq_true _ _).mpr ⟨queued, rfl⟩
    refine ⟨⟨k.tables.schedule, specs, k.tables.count, k.tables.records⟩, serves, ⟨k.bounds.pointer, k.bounds.phantoms, k.bounds.below⟩,
      ?_, fun j current => ?_⟩
    · exact .granted _ m ⟨cycling.state, cycling.holdoff, rfl, running⟩ inFlight rfl
        ⟨members.distinct, members.low, members.high, members.inService⟩ rfl rfl
    · have same : some (Work.poll m) = some (.poll j) := current
      obtain rfl : m = j := by simpa using same
      exact ⟨_, running, inFlight, rfl⟩
  · obtain rfl := Option.some.inj (cycling.cycle.symm.trans cycle)
    exact absurd (asked.symm.trans request) (by simp)

/-- The start-time checks pass for a station in service (R10). -/
theorem startCheck_serves {x : Transaction} {n : Nat} (ok : x.spec.ok = true) (passed : startCheck x s = none)
    (dest : x.spec.dest = .station n) : s.serves n := by
  obtain ⟨⟨station, -⟩, -⟩ := x.spec.ok_iff.mp ok
  obtain ⟨low, high⟩ := station n dest
  refine ⟨low, high, ?_⟩
  unfold startCheck at passed
  rw [dest] at passed
  dsimp only at passed
  split_ifs at passed with undefined misfit quarantined
  unfold Station.defined at undefined
  unfold Station.inService
  rw [Bool.and_eq_true]
  exact ⟨by simpa using undefined, by simpa using quarantined⟩

/-- The tables when the head is taken. -/
theorem tables_takeWork {x : Transaction} {q : DispatchQueue} (k : s.Tables) (head : s.queue.takeHead = some (x, q)) :
    (takeWork x q s).Tables := by
  obtain ⟨spec, rest⟩ := specs_cons head k.specs
  exact ⟨k.schedule, (Bool.and_eq_true _ _).mpr ⟨rest, spec⟩, k.count, k.records⟩

/-- The head passes its start-time checks and begins (R49). -/
theorem rest_startWork {x : Transaction} {q : DispatchQueue} (k : LineRest false s) (head : s.queue.takeHead = some (x, q))
    (free : s.engine.work = none) (passed : startCheck x (takeWork x q s) = none) : LineRest true (startWork x (takeWork x q s)) := by
  obtain ⟨schedule, specs, count, records⟩ := tables_takeWork k.tables head
  obtain ⟨spec, -⟩ := specs_cons head k.tables.specs
  have station : ∀ n, x.spec.dest.station? = some n → s.serves n := by
    intro n number
    cases dest : x.spec.dest with
    | station m =>
      rw [dest] at number
      obtain rfl := Option.some.inj number
      exact startCheck_serves (s := takeWork x q s) spec passed dest
    | group g => rw [dest] at number; cases number
    | all => rw [dest] at number; cases number
  refine ⟨⟨schedule, specs, count, records⟩, station, ⟨k.bounds.pointer, k.bounds.phantoms, k.bounds.below⟩, ?_, ?_⟩
  · obtain ⟨state, cycle, -, holdoff⟩ | ⟨c, n, cycling, inFlight, request, members, asks⟩ | ⟨c, n, -, -, -, -, -, work⟩ := k.stage
    · exact .still state cycle rfl holdoff
    · exact .presented c n ⟨cycling.state, cycling.holdoff, rfl, cycling.cycle⟩ inFlight request
        ⟨members.distinct, members.low, members.high, members.inService⟩
        ⟨fun due => (by cases due), fun _ atRest => (by cases atRest), fun current => (by cases current)⟩
    · exact absurd (free.symm.trans work) (by simp)
  · intro n current
    cases current

/-- A take that a start-time check ends: the engine is IDLE again behind the shorter queue (R10). -/
theorem beside_completeAtTake {x : Transaction} {q : DispatchQueue} (o : TxnOutcome) (idle : s.engine.state = .idle)
    (c : s.engine.Cleared) (go : s.engine.pausePending = false) :
    Beside { s with queue := q } (completeAtTake x o (takeWork x q s)) := by
  have handed := beside_handCompletion (takeWork x q s) ((takeWork x q s).engine.completion x o)
  have told := told_handCompletion ((takeWork x q s).engine.completion x o) (takeWork x q s)
  have stays : (handCompletion ((takeWork x q s).engine.completion x o) (takeWork x q s)).engine.pausePending = false := by
    obtain ⟨n, eq, -⟩ := told.engine
    rw [eq]
    exact go
  unfold completeAtTake
  dsimp only
  split
  · rename_i pending
    exact absurd (stays.symm.trans pending) (by simp)
  · refine ⟨⟨fun _ => idle, fun _ => rfl⟩, ?_, c.work.symm, c.station.symm, handed.config, handed.queue, handed.stations, handed.poll,
      handed.vdd, handed.latnHeld, handed.schedule⟩
    show true = s.engine.running
    rw [LineEngine.running, idle]
    rfl

/-- What the queue's grant comes to: the head runs, or it has left and the engine decides again. -/
theorem rest_grantQueue (k : LineRest false s) (ok : s.engine.ok = true) (idle : s.engine.state = .idle) :
    (LineRest true (grantQueue s).1 ∧ (grantQueue s).1.idleEmpty ∧ (grantQueue s).2 = false) ∨
      (LineRest false (grantQueue s).1 ∧ (grantQueue s).2 = true ∧ (s.queue.count ≠ 0 → (grantQueue s).1.queue.count < s.queue.count)) := by
  obtain ⟨c, go⟩ := cleared_of_idle ok idle
  unfold grantQueue
  split
  · rename_i x q head
    dsimp only
    split
    · rename_i o _
      obtain ⟨-, rest⟩ := specs_cons head k.tables.specs
      have beside := beside_completeAtTake (x := x) (q := q) o idle c go
      refine .inr ⟨beside.rest (k.queue rest), rfl, fun _ => ?_⟩
      rw [beside.queue, count_eq_length, count_eq_length, takeHead_order head]
      exact Nat.lt_succ_self _
    · rename_i passed
      exact .inl ⟨rest_startWork k head c.work passed, fun atRest => (by cases atRest), rfl⟩
  · rename_i empty
    have beside : Beside s { s with engine := { s.engine with lastGrant := .queue } } := .of_engine rfl rfl rfl rfl
    refine .inr ⟨beside.rest k, rfl, fun some => absurd ?_ some⟩
    rw [count_eq_length]
    unfold DispatchQueue.takeHead at empty
    unfold DispatchQueue.order
    cases urgent : s.queue.urgent with
    | cons => rw [urgent] at empty; cases empty
    | nil =>
      cases normal : s.queue.normal with
      | cons => rw [urgent, normal] at empty; cases empty
      | nil => rfl

theorem pollChosen_empty (unchosen : s.pollChosen = none) (empty : s.queue.count = 0) : s.poll.presented = none := by
  unfold State.pollChosen at unchosen
  split at unchosen
  · rw [if_pos (.inr empty)] at unchosen
    cases unchosen
  · assumption

theorem pollChosen_presented {n : Nat} (chosen : s.pollChosen = some n) : s.poll.presented = some n := by
  unfold State.pollChosen at chosen
  split at chosen
  · split at chosen
    · rename_i presented _
      rw [presented]
      exact chosen
    · cases chosen
  · cases chosen

/-- One decision leaves the line side decided, or takes the head off the queue. -/
theorem rest_grantOnce (k : LineRest false s) (ok : s.engine.ok = true) :
    (LineRest true (grantOnce s).1 ∧ (grantOnce s).1.idleEmpty ∧ (grantOnce s).2 = false) ∨
      (LineRest false (grantOnce s).1 ∧ (grantOnce s).2 = true ∧ (grantOnce s).1.queue.count < s.queue.count) := by
  unfold grantOnce
  split
  · rename_i idle
    split
    · rename_i n chosen
      exact .inl ⟨rest_grantPoll k (pollChosen_presented chosen), fun atRest => (by cases atRest), rfl⟩
    · rename_i unchosen
      split
      · rename_i empty
        exact .inl ⟨k.tighten fun _ => pollChosen_empty unchosen empty, fun _ => empty, rfl⟩
      · rename_i some
        obtain decided | ⟨rest, again, fewer⟩ := rest_grantQueue k ok idle
        · exact .inl decided
        · exact .inr ⟨rest, again, fewer some⟩
  · rename_i busy
    exact .inl ⟨k.tighten fun idle => absurd idle busy, fun idle => absurd idle busy, rfl⟩

/-- The engine's decisions come to an end with nothing left to decide. -/
theorem rest_decideGrant (k : LineRest false s) (ok : s.engine.ok = true) :
    LineRest true (decideGrant s) ∧ (decideGrant s).idleEmpty := by
  have loop : ∀ fuel u, u.queue.count < fuel → LineRest false u → u.engine.ok = true →
      LineRest true (grantLoop fuel u) ∧ (grantLoop fuel u).idleEmpty := by
    intro fuel
    induction fuel with
    | zero => exact fun u few => absurd few (Nat.not_lt_zero _)
    | succ n ih =>
      intro u few ku oku
      unfold grantLoop
      obtain ⟨rest, empty, done⟩ | ⟨rest, again, fewer⟩ := rest_grantOnce ku oku
      · rw [done]
        exact ⟨rest, empty⟩
      · rw [if_pos again]
        exact ih _ (by omega) rest (grantOnce_ok oku)
  exact loop _ s (Nat.lt_succ_self _) k ok

theorem grantQueue_heeds (ok : s.engine.ok = true) (idle : s.engine.state = .idle) (h : s.heeds) : (grantQueue s).1.heeds := by
  obtain ⟨c, go⟩ := cleared_of_idle ok idle
  have runs : s.engine.running = true := by
    rw [LineEngine.running, idle]
    rfl
  have unheld : s.vdd = true → s.poll.state = .idle → s.latnHeld = true → False := fun powered rest held =>
    Bool.noConfusion (runs.symm.trans (h powered rest held))
  unfold grantQueue
  split
  · rename_i x q _
    dsimp only
    split
    · rename_i o _
      exact (beside_completeAtTake (x := x) (q := q) o idle c go).heeds h
    · exact fun powered rest held => (unheld powered rest held).elim
  · exact h

theorem grantOnce_heeds (ok : s.engine.ok = true) (h : s.heeds) : (grantOnce s).1.heeds := by
  unfold grantOnce
  split
  · rename_i idle
    have runs : s.engine.running = true := by
      rw [LineEngine.running, idle]
      rfl
    repeat' split
    · exact fun powered rest held => Bool.noConfusion (runs.symm.trans (h powered rest held))
    · exact h
    · exact grantQueue_heeds ok idle h
  · exact h

theorem decideGrant_heeds (ok : s.engine.ok = true) (h : s.heeds) : (decideGrant s).heeds := by
  have both : (decideGrant s).engine.ok = true ∧ (decideGrant s).heeds :=
    decideGrant_keeps (P := fun u => u.engine.ok = true ∧ u.heeds) (fun u hu => ⟨grantOnce_ok hu.1, grantOnce_heeds hu.1 hu.2⟩) ⟨ok, h⟩
  exact both.2

/-! ### The line side between two commands -/

/-- The line side in order, an IDLE engine's queue aside: what every act inside an evaluation keeps. -/
structure LineScan (s : State) : Prop where
  engine : s.engine.ok = true
  rest : LineRest true s
  heeds : s.heeds

/-- Before a grant decision: the engine's work may just have ended, and a request may wait for it. -/
structure LineLoose (s : State) : Prop where
  engine : s.engine.ok = true
  rest : LineRest false s
  heeds : s.heeds

theorem LineScan.loose (k : LineScan s) : LineLoose s := ⟨k.engine, k.rest.loosen, k.heeds⟩

theorem lineOk_iff_scan (s : State) : s.lineOk = true ↔ LineScan s ∧ s.idleEmpty := by
  rw [lineOk_iff]
  exact ⟨fun ⟨engine, rest, heeds, empty⟩ => ⟨⟨engine, rest, heeds⟩, empty⟩, fun ⟨⟨engine, rest, heeds⟩, empty⟩ => ⟨engine, rest, heeds, empty⟩⟩

/-- A grant decision brings the whole line side in order. -/
theorem LineLoose.decided (k : LineLoose s) : (decideGrant s).lineOk = true := by
  obtain ⟨rest, empty⟩ := rest_decideGrant k.rest k.engine
  exact (lineOk_iff_scan _).mpr ⟨⟨decideGrant_ok k.engine, rest, decideGrant_heeds k.engine k.heeds⟩, empty⟩

/-- What an act does: the line side stays in order, and so does an IDLE engine's queue. -/
structure LineKept (s t : State) : Prop where
  scan : LineScan t
  empty : s.idleEmpty → t.idleEmpty

theorem LineKept.of_lineOk (ok : t.lineOk = true) : LineKept s t :=
  have both := (lineOk_iff_scan t).mp ok
  ⟨both.1, fun _ => both.2⟩

theorem Beside.kept (h : Beside s t) (k : LineScan s) (engine : t.engine.ok = true) : LineKept s t :=
  ⟨⟨engine, h.rest k.rest, h.heeds k.heeds⟩, h.idleEmpty⟩

/-- The take that follows a decision for the queue. -/
theorem kept_takeDecided (k : LineScan s) : LineKept s (takeDecided s) := by
  unfold takeDecided
  dsimp only
  split
  · rename_i idle
    have heeds := grantQueue_heeds k.engine idle k.heeds
    have engine := grantQueue_ok k.engine idle
    obtain ⟨rest, empty, done⟩ | ⟨rest, again, -⟩ := rest_grantQueue k.rest.loosen k.engine idle
    · rw [done]
      exact ⟨⟨engine, rest, heeds⟩, fun _ => empty⟩
    · rw [if_pos again]
      exact .of_lineOk (LineLoose.decided ⟨engine, rest, heeds⟩)
  · exact ⟨k, id⟩

end

end Sys2Proof.Machine
end

section
/-! SUPPORT. The line side in a step, at last: the Poll Unit's events, a resume, the end of an exchange, the station requests, a
start, a firing, and every act. -/

namespace Sys2Proof.Machine

section
variable {s t : State}

/-! ### LATN, the holdoff, and the request presented (R102, R108, R109) -/

theorem LineScan.limit (k : LineScan s) : s.engine.config.phantomLimit ≤ 15 := phantomLimit_le (s.engine.ok_iff.mp k.engine).1

/-- The Poll Unit comes to its test. -/
theorem rest_pollTest (k : LineRest true s) (limit : s.engine.config.phantomLimit ≤ 15) :
    LineRest true (pollTest s) ∧ (pollTest s).heeds := by
  have polled := polled_pollTest s
  by_cases cycling : s.poll.state = .cycling
  · have same : pollTest s = s := by
      unfold pollTest
      rw [if_neg (by simp [cycling])]
    rw [same]
    exact ⟨k, fun _ idle => absurd (cycling.symm.trans idle) (by simp)⟩
  · obtain ⟨state, cycle, due, holdoff⟩ | ⟨c, n, inCycle, -⟩ | ⟨c, n, inCycle, -⟩ := k.stage
    · have work : ∀ n, s.engine.work ≠ some (.poll n) := by
        intro n current
        obtain ⟨c, some, -⟩ := k.granted n current
        exact absurd (cycle.symm.trans some) (by simp)
      obtain ⟨bounds, stage, heeds⟩ := pollTest_spec k.bounds state cycle due holdoff limit work
      exact ⟨⟨polled.tables k.tables, polled.atStation k.station, bounds, stage,
        fun n current => absurd (polled.work.symm.trans current) (work n)⟩, heeds⟩
    · exact absurd inCycle.state cycling
    · exact absurd inCycle.state cycling

theorem kept_pollTest (k : LineRest true s) (engine : s.engine.ok = true) : LineKept s (pollTest s) := by
  have polled := polled_pollTest s
  obtain ⟨rest, heeds⟩ := rest_pollTest k (phantomLimit_le (s.engine.ok_iff.mp engine).1)
  refine ⟨⟨polled.told.engine_ok engine, rest, heeds⟩, fun empty => ?_⟩
  unfold State.idleEmpty
  rw [polled.state, polled.told.queue]
  exact empty

/-- The level of LATN is no part of the rest of the line side. -/
theorem LineRest.latn {strict : Bool} (k : LineRest strict s) (held : Bool) : LineRest strict { s with latnHeld := held } := by
  refine ⟨⟨k.tables.schedule, k.tables.specs, k.tables.count, k.tables.records⟩, k.station, k.bounds, ?_, k.granted⟩
  obtain ⟨state, cycle, due, holdoff⟩ | ⟨c, n, ⟨state, holdoff, running, cycle⟩, inFlight, request, ⟨distinct, low, high, inService⟩, ⟨idle, due, work⟩⟩ |
    ⟨c, n, ⟨state, holdoff, running, cycle⟩, inFlight, request, ⟨distinct, low, high, inService⟩, due, work⟩ := k.stage
  · exact .still state cycle due holdoff
  · exact .presented c n ⟨state, holdoff, running, cycle⟩ inFlight request ⟨distinct, low, high, inService⟩ ⟨idle, due, work⟩
  · exact .granted c n ⟨state, holdoff, running, cycle⟩ inFlight request ⟨distinct, low, high, inService⟩ due work

/-- The Poll Unit comes to IDLE from a state without a cycle. -/
theorem LineRest.atRest {strict : Bool} (k : LineRest strict s) (still : s.poll.state ≠ .cycling) {p : PollUnit} (idle : p.state = .idle)
    (pointer : p.pointer = s.poll.pointer) (phantoms : p.phantomCount ≤ 14) (cycle : p.cycle = s.poll.cycle) (due : p.due = s.poll.due)
    (holdoff : p.holdoff = none) : LineRest true { s with poll := p } := by
  obtain ⟨-, noCycle, notDue, -⟩ | ⟨c, n, cycling, -⟩ | ⟨c, n, cycling, -⟩ := k.stage
  · refine ⟨⟨k.tables.schedule, k.tables.specs, k.tables.count, k.tables.records⟩, k.station,
      ⟨pointer ▸ k.bounds.pointer, by dsimp only; omega, .inr phantoms⟩,
      .still (by simp [idle]) (cycle.trans noCycle) (due.trans notDue) (by simp [idle, holdoff]), fun m current => ?_⟩
    obtain ⟨c, some, -⟩ := k.granted m current
    exact absurd (noCycle.symm.trans some) (by simp)
  · exact absurd cycling.state still
  · exact absurd cycling.state still

theorem kept_latnHeld (k : LineScan s) : LineKept s (pollTest { s with latnHeld := true }) := by
  obtain ⟨scan, empty⟩ := kept_pollTest (k.rest.latn true) k.engine
  exact ⟨scan, empty⟩

theorem kept_latnReleased (k : LineScan s) : LineKept s (latnReleased { s with latnHeld := false }) := by
  unfold latnReleased
  split
  · rename_i ignoring
    have still : s.poll.state ≠ .cycling := fun other => absurd (ignoring.symm.trans other) (by simp)
    have holdoff : s.poll.holdoff = none := by
      obtain ⟨-, -, -, holdoff⟩ | ⟨c, n, cycling, -⟩ | ⟨c, n, cycling, -⟩ := k.rest.stage
      · cases timer : s.poll.holdoff with
        | none => rfl
        | some ms => exact absurd (ignoring.symm.trans (holdoff.mp (by simp [timer]))) (by simp)
      · exact cycling.holdoff
      · exact cycling.holdoff
    have rest : LineRest true { s with latnHeld := false, poll := { s.poll with state := .idle, phantomCount := 0 } } :=
      (k.rest.latn false).atRest still rfl rfl (Nat.zero_le _) rfl rfl holdoff
    obtain ⟨scan, empty⟩ := kept_pollTest ((beside_raise _ (.busState .attentionClear)).rest rest) k.engine
    exact ⟨scan, empty⟩
  · exact ⟨⟨k.engine, k.rest.latn false, fun _ _ held => (by cases held)⟩, id⟩

theorem kept_holdoffExpiry (k : LineScan s) : LineKept s (pollHoldoffExpiry s) := by
  unfold pollHoldoffExpiry
  split
  · rename_i holdoff
    have below : s.poll.phantomCount ≤ 14 := by simpa [holdoff] using k.rest.bounds.below
    have rest : LineRest true { s with poll := { s.poll with state := .idle, holdoff := none } } :=
      k.rest.atRest (by simp [holdoff]) rfl rfl below rfl rfl rfl
    obtain ⟨scan, empty⟩ := kept_pollTest rest k.engine
    exact ⟨scan, empty⟩
  · exact ⟨k, id⟩

/-- The flag of an IDLE engine's decision to come is taken back as the engine comes to it (log 9). -/
theorem LineScan.undue (k : LineScan s) : LineLoose { s with poll := { s.poll with due := false } } := by
  refine ⟨k.engine, ⟨⟨k.rest.tables.schedule, k.rest.tables.specs, k.rest.tables.count, k.rest.tables.records⟩, k.rest.station,
    ⟨k.rest.bounds.pointer, k.rest.bounds.phantoms, k.rest.bounds.below⟩, ?_, k.rest.granted⟩, k.heeds⟩
  obtain ⟨state, cycle, -, holdoff⟩ | ⟨c, n, ⟨state, holdoff, running, cycle⟩, inFlight, request, ⟨distinct, low, high, inService⟩, ⟨-, -, work⟩⟩ |
    ⟨c, n, ⟨state, holdoff, running, cycle⟩, inFlight, request, ⟨distinct, low, high, inService⟩, -, work⟩ := k.rest.stage
  · exact .still state cycle rfl holdoff
  · exact .presented c n ⟨state, holdoff, running, cycle⟩ inFlight request ⟨distinct, low, high, inService⟩
      ⟨fun due => (by cases due), by simp, work⟩
  · exact .granted c n ⟨state, holdoff, running, cycle⟩ inFlight request ⟨distinct, low, high, inService⟩ rfl work

theorem kept_requestPresented (k : LineScan s) : LineKept s (requestPresented s) := by
  unfold requestPresented
  split
  · exact .of_lineOk k.undue.decided
  · exact ⟨k, id⟩

/-! ### A resume (R57, R59, R186) -/

/-- The grant leaves a Poll Unit without a cycle where it is. -/
theorem grantOnce_poll (ok : s.engine.ok = true) (cycle : s.poll.cycle = none) :
    (grantOnce s).1.poll.state = s.poll.state := by
  have none : s.pollChosen = none := by
    unfold State.pollChosen PollUnit.presented
    rw [cycle]
  unfold grantOnce
  split
  · rename_i idle
    obtain ⟨c, go⟩ := cleared_of_idle ok idle
    rw [none]
    dsimp only
    split
    · rfl
    · unfold grantQueue
      split
      · rename_i x q _
        dsimp only
        split
        · rename_i o _
          rw [(beside_completeAtTake (x := x) (q := q) o idle c go).poll]
        · rfl
      · rfl
  · rfl

theorem kept_resume (k : LineScan s) (stopped : s.engine.state = .paused ∨ s.engine.state = .fault) : LineKept s (resumeIdle s) := by
  obtain ⟨b, stage⟩ := s.engine.ok_iff.mp k.engine
  have free : s.engine.Cleared ∧ s.engine.pausePending = false := by
    obtain ⟨-, c, go⟩ | ⟨w, x, h⟩ | ⟨x, h⟩ | ⟨w, r, h⟩ := stage
    · exact ⟨c, go⟩
    · simp [h.state] at stopped
    · simp [h.state] at stopped
    · simp [h.state] at stopped
  obtain ⟨c, go⟩ := free
  have stopped' : s.engine.running = false := by
    unfold LineEngine.running
    obtain state | state := stopped <;> simp [state]
  have still : s.poll.state ≠ .cycling ∧ s.poll.cycle = none ∧ s.poll.due = false ∧ (s.poll.holdoff.isSome = true ↔ s.poll.state = .holdoff) := by
    obtain ⟨state, cycle, due, holdoff⟩ | ⟨d, n, cycling, -⟩ | ⟨d, n, cycling, -⟩ := k.rest.stage
    · exact ⟨state, cycle, due, holdoff⟩
    · exact absurd (stopped'.symm.trans cycling.running) (by simp)
    · exact absurd (stopped'.symm.trans cycling.running) (by simp)
  obtain ⟨state, cycle, due, holdoff⟩ := still
  have engine : ∀ n, ({ s with engine := { s.engine with state := .idle }, choices := n } : State).engine.ok = true :=
    fun n => enterIdle_ok b c go
  have rest : ∀ n, LineRest true { s with engine := { s.engine with state := .idle }, choices := n } := fun n =>
    ⟨⟨k.rest.tables.schedule, k.rest.tables.specs, k.rest.tables.count, k.rest.tables.records⟩, k.rest.station, k.rest.bounds,
      .still state cycle due holdoff, k.rest.granted⟩
  refine .of_lineOk ?_
  unfold resumeIdle decideThenPresent
  dsimp only
  split
  · have undue : ∀ u : State, LineRest true u → u.engine.ok = true →
        (decideGrant { pollTest u with poll := { (pollTest u).poll with due := false } }).lineOk = true := fun u ku ok =>
      (kept_pollTest ku ok).scan.undue.decided
    split
    · exact undue _ (rest _) (engine _)
    · have ok := grantOnce_ok (engine (s.choices + 1))
      have again : ∀ {strict}, LineRest strict (grantOnce { s with engine := { s.engine with state := .idle }, choices := s.choices + 1 }).1 →
          LineRest true (grantOnce { s with engine := { s.engine with state := .idle }, choices := s.choices + 1 }).1 := by
        intro strict ku
        have poll := grantOnce_poll (engine (s.choices + 1)) cycle
        refine ⟨ku.tables, ku.station, ku.bounds, ?_, ku.granted⟩
        obtain ⟨other, cycle, due, holdoff⟩ | ⟨d, n, cycling, -⟩ | ⟨d, n, cycling, -⟩ := ku.stage
        · exact .still other cycle due holdoff
        · exact absurd (poll.symm.trans cycling.state) state
        · exact absurd (poll.symm.trans cycling.state) state
      obtain ⟨decided, empty, done⟩ | ⟨loose, more, -⟩ := rest_grantOnce (rest (s.choices + 1)).loosen (engine (s.choices + 1))
      · rw [done]
        obtain ⟨scan, keeps⟩ := kept_pollTest (again decided) ok
        exact (lineOk_iff_scan _).mpr ⟨scan, keeps empty⟩
      · rw [if_pos more]
        exact undue _ (again loose) ok
  · rename_i noNeed
    exact LineLoose.decided ⟨engine s.choices, (rest s.choices).loosen, fun _ idle held => absurd ⟨idle, held⟩ noNeed⟩

/-! ### The end of an exchange (R34, R48 to R54) -/

/-- An ACTIVE engine whose exchange has ended, with its line side in order. -/
structure LineEnding (w : Work) (s : State) : Prop where
  rest : LineRest true s
  heeds : s.heeds
  works : s.engine.Works w
  bounds : s.engine.InBounds
  state : s.engine.state = .active
  referral : s.engine.referral = none

theorem LineEnding.finished {w : Work} (k : LineEnding w s) (o : TxnOutcome) (r : AttemptResult) : (finishWork o r s).lineOk = true := by
  obtain ⟨rest, heeds⟩ := rest_endWork o r k.rest k.heeds k.works k.state (phantomLimit_le k.bounds)
  exact LineLoose.decided ⟨endWork_ok o r k.bounds k.referral, rest, heeds⟩

theorem LineEnding.noteReply {w : Work} (k : LineEnding w s) (y : Reply) : LineEnding w (noteReply y s) := by
  have beside : Beside s (Machine.noteReply y s) := .of_engine rfl rfl rfl rfl
  exact ⟨beside.rest k.rest, beside.heeds k.heeds, ⟨k.works.work, k.works.station, k.works.attempts⟩, k.bounds.same rfl rfl rfl, k.state,
    k.referral⟩

/-- What the engine does on a result: it ends the work, or the line side stands. -/
def EndsOrStands (s t : State) : Prop := t.lineOk = true ∨ Beside s t

theorem beside_openReferral (x : Exchange) (y : Reply) (active : s.engine.state = .active) : Beside s (openReferral x y s) := by
  obtain ⟨runs, atWork⟩ := working_runs (.inl active)
  exact ⟨⟨fun idle => (by cases idle), fun idle => absurd idle atWork⟩, runs.symm, rfl, rfl, rfl, rfl, rfl, rfl, rfl, rfl, id⟩

theorem beside_beginWait (d : Wait) (s : State) : Beside s (beginWait d s) := .of_engine rfl rfl rfl rfl

theorem beside_noteReply (y : Reply) (s : State) : Beside s (noteReply y s) := .of_engine rfl rfl rfl rfl

theorem attemptEnd_cases {x : Transaction} {w : Work} (y : Exchange) (r : AttemptResult) (k : LineEnding w s) :
    EndsOrStands s (attemptEnd x y r s) := by
  unfold attemptEnd
  split
  · rename_i a
    have noted := k.noteReply a
    dsimp only
    split
    · exact .inl (noted.finished _ _)
    · exact .inl (noted.finished _ _)
    · split
      · exact .inr ((beside_noteReply a s).trans (beside_beginWait _ _))
      · exact .inl (noted.finished _ _)
    · exact .inr ((beside_noteReply a s).trans (beside_openReferral y a noted.state))
  · exact .inl (k.finished _ _)
  · split
    · exact .inr (beside_beginWait _ s)
    · exact .inl (k.finished _ _)
  · exact .inl (k.finished _ _)

theorem pollEnd_cases {w : Work} (y : Exchange) (r : AttemptResult) (k : LineEnding w s) : EndsOrStands s (pollEnd y r s) := by
  unfold pollEnd
  repeat' split
  · rename_i a _
    exact .inr ((beside_noteReply a s).trans (beside_openReferral y a (k.noteReply a).state))
  · exact .inl ((k.noteReply _).finished _ _)
  all_goals exact .inl (k.finished _ _)

theorem verdictEnd_cases {w : Work} (r : AttemptResult) (k : LineEnding w s) : EndsOrStands s (verdictEnd r s) := by
  unfold verdictEnd
  cases r with
  | reply a => exact .inl ((k.noteReply a).finished _ _)
  | sent => exact .inl (k.finished _ _)
  | failed f => exact .inl (k.finished _ _)
  | lineFault => exact .inl (k.finished _ _)

theorem kept_endExchange {x y : Exchange} {r : AttemptResult} (k : LineScan s) (current : s.engine.exchange = some x)
    (kind : y.kind = x.kind) (received : ∀ a, r = .reply a → x.phase = .receive) : LineKept s (endExchange y r s) := by
  obtain ⟨b, ⟨-, c, -⟩ | ⟨w, x', run⟩ | ⟨a, h⟩ | ⟨w, q, h⟩⟩ := s.engine.ok_iff.mp k.engine
  · exact absurd (current.symm.trans c.exchange) (by simp)
  · have counted : Beside s (endCounted y r s) := .of_engine rfl rfl rfl rfl
    have ending : LineEnding w (endCounted y r s) := ⟨counted.rest k.rest, counted.heeds k.heeds, ⟨run.work, run.station, run.attempts⟩,
      b.count (countResult_ok _ _ b.counters) rfl rfl rfl, run.state, run.referral⟩
    have cases : EndsOrStands (endCounted y r s) (endExchange y r s) :=
      endExchange_cases (M := EndsOrStands (endCounted y r s)) y r s (fun a _ _ => attemptEnd_cases y r ending) (fun _ _ => .inr (.refl _))
        (fun _ => pollEnd_cases y r ending) (fun _ => verdictEnd_cases r ending)
    obtain ok | stands := cases
    · exact .of_lineOk ok
    · exact (counted.trans stands).kept k (endExchange_ok k.engine current kind received)
  · exact absurd (current.symm.trans h.exchange) (by simp)
  · exact absurd (current.symm.trans h.exchange) (by simp)

/-- A closing claim takes the engine from HELD to ACTIVE (R88). -/
theorem beside_closeReferral {r : Referral} (c : Closure) (a : List Byte) (ok : s.engine.ok = true)
    (opened : s.engine.referral = some r) : Beside s (closeReferral r c a s) := by
  have held : s.engine.state = .held := by
    obtain ⟨-, ⟨-, cleared, -⟩ | ⟨w, x, h⟩ | ⟨x, h⟩ | ⟨w, q, h⟩⟩ := s.engine.ok_iff.mp ok
    · exact absurd (opened.symm.trans cleared.referral) (by simp)
    · exact absurd (opened.symm.trans h.referral) (by simp)
    · exact absurd (opened.symm.trans h.referral) (by simp)
    · exact h.state
  unfold closeReferral beginVerdict
  dsimp only
  split <;> exact .of_held (.inr held) (.inl rfl) rfl rfl rfl

end

end Sys2Proof.Machine
end

section
/-! SUPPORT. The line side in a step: the requests of the Station Table, the queue and the engine, the starts, a firing; and with
them every act. -/

namespace Sys2Proof.Machine

section
variable {s t : State}

/-! ### Requests of the Station Table (R68, R70, R71) -/

/-- A station put into service by a request. -/
theorem kept_stationServes (k : LineScan s) (n : Nat) {r : Station} (a b : StationState)
    (stays : ¬ (b = .undefined ∨ b = .quarantined)) (ok : r.ok s.engine.config.failureThreshold = true) (inService : r.inService = true) :
    LineKept s (stationChanged n a b (setStation n r s)) := by
  have rest := rest_setStation n k.rest ok inService
  have told := beside_raise (setStation n r s) (.stationState n a b)
  unfold stationChanged
  dsimp only
  rw [if_neg stays]
  exact ⟨⟨k.engine, told.rest rest, told.heeds k.heeds⟩, id⟩

theorem define_ok {su : Nat} (g : BitVec 8) (p : Bool) (q : Policy) (threshold : Nat) (subUnits : su ≤ 15) :
    (Station.define su g p q).ok threshold = true := by
  rw [Station.ok_iff]
  simp [Station.define, subUnits]

theorem restored_ok {r : Station} {threshold : Nat} (ok : r.ok threshold = true) :
    ({ r with state := .unknown, failures := 0 } : Station).ok threshold = true := by
  obtain ⟨⟨-, subUnits⟩, -, -, -, service, contact⟩ := (Station.ok_iff _ _).mp ok
  exact (Station.ok_iff _ _).mpr ⟨⟨Nat.zero_le _, subUnits⟩, by simp, by simp, by simp, service, contact⟩

theorem clearedStation_ok (threshold : Nat) : Station.cleared.ok threshold = true := by
  rw [Station.ok_iff]
  simp [Station.cleared]

/-- A station that is not the engine's is forgotten: its cycle goes on without it (R70, R112). -/
theorem kept_stnForget (k : LineScan s) {n : Nat} (a : StationState) (low : 1 ≤ n) (other : s.engine.station ≠ some n) :
    LineKept s (stationChanged n a .undefined (setStation n Station.cleared s)) := by
  have raised := beside_raise (setStation n Station.cleared s) (.stationState n a .undefined)
  have tables := raised.tables (tables_setStation n k.rest.tables (clearedStation_ok _))
  have stage := raised.stage (stage_setStation n (r := Station.cleared) (some n) k.rest.stage (.inl ⟨low, rfl⟩))
  have polled := polled_pollStationGone n (raise (.stationState n a .undefined) (setStation n Station.cleared s))
  have idle : ∀ c, s.poll.cycle = some c → c.inFlight = some n →
      c.request ≠ .granted ∧ ∀ m ∈ c.remaining, s.engine.work ≠ some (.poll m) := by
    intro c cycle inFlight
    have notGranted : c.request ≠ .granted := by
      intro granted
      obtain ⟨-, none, -, -⟩ | ⟨d, m, cycling, -, request, -⟩ | ⟨d, m, cycling, flight, -, -, -, work⟩ := k.rest.stage
      · exact absurd (cycle.symm.trans none) (by simp)
      · obtain rfl := Option.some.inj (cycling.cycle.symm.trans cycle)
        exact absurd (request.symm.trans granted) (by simp)
      · obtain rfl := Option.some.inj (cycling.cycle.symm.trans cycle)
        obtain rfl : m = n := Option.some.inj (flight.symm.trans inFlight)
        obtain ⟨-, ⟨-, c, -⟩ | ⟨w, x, h⟩ | ⟨x, h⟩ | ⟨w, r, h⟩⟩ := s.engine.ok_iff.mp k.engine
        · exact absurd (work.symm.trans c.work) (by simp)
        · obtain rfl : w = .poll m := Option.some.inj (h.work.symm.trans work)
          exact other h.station
        · exact absurd (work.symm.trans h.work) (by simp)
        · obtain rfl : w = .poll m := Option.some.inj (h.work.symm.trans work)
          exact other h.station
    refine ⟨notGranted, fun m _ current => ?_⟩
    obtain ⟨d, same, -, granted⟩ := k.rest.granted m current
    obtain rfl := Option.some.inj (same.symm.trans cycle)
    exact notGranted granted
  obtain ⟨bounds, after, -, inFlight, heeds⟩ := pollStationGone_spec
    (s := raise (.stationState n a .undefined) (setStation n Station.cleared s)) k.rest.bounds stage k.limit idle
  have station : ∀ m, s.engine.station = some m → (setStation n Station.cleared s).serves m := by
    intro m current
    obtain ⟨low', high, inService⟩ := k.rest.station m current
    have apart : n ≠ m := fun same => other (same ▸ current)
    refine ⟨low', high, ?_⟩
    rw [stationAt_setStation_other (by omega)]
    exact inService
  unfold stationChanged
  dsimp only
  rw [if_pos (.inl rfl)]
  refine ⟨⟨polled.told.engine_ok k.engine, ⟨polled.tables tables, polled.atStation fun m current => raised.serves (station m current), bounds,
    after, inFlight k.rest.granted⟩, heeds k.heeds⟩, fun empty => ?_⟩
  unfold State.idleEmpty
  rw [polled.state, polled.told.queue]
  exact empty

/-! ### Requests of the queue and the engine (R6, R12, R55, R61) -/

/-- Admission puts a transaction in range into the queue (R3, R7). -/
theorem rest_admission (k : LineRest true s) (o : Origin) {spec : TxnSpec} (ok : spec.ok = true) :
    LineRest true (admission o spec s) := by
  refine k.queue ?_
  have old := k.tables.specs
  unfold State.specsOk at old
  obtain ⟨queued, -⟩ := (Bool.and_eq_true _ _).mp old
  refine List.all_eq_true.mpr fun x mem => ?_
  obtain new | mem := List.mem_cons.mp ((order_place (s.newTransaction o spec) s.queue).mem_iff.mp mem)
  · rw [new]
    exact ok
  · exact List.all_eq_true.mp queued x mem

theorem kept_send (k : LineScan s) {spec : TxnSpec} (ok : spec.ok = true) : LineKept s (decideGrant (admission .host spec s)) :=
  .of_lineOk (LineLoose.decided ⟨k.engine, (rest_admission k.rest .host ok).loosen, k.heeds⟩)

/-- A cancelled transaction leaves the queue (R12). -/
theorem kept_cancel (k : LineScan s) (c : Completion) (ticket : Nat) :
    LineKept s (handCompletion c { s with queue := s.queue.remove ticket }) := by
  have sub : (s.queue.remove ticket).order.Sublist s.queue.order := List.filter_sublist.append List.filter_sublist
  have old := k.rest.tables.specs
  unfold State.specsOk at old
  obtain ⟨queued, -⟩ := (Bool.and_eq_true _ _).mp old
  have rest := k.rest.queue (q := s.queue.remove ticket)
    (List.all_eq_true.mpr fun x mem => List.all_eq_true.mp queued x (sub.subset mem))
  have beside := beside_handCompletion { s with queue := s.queue.remove ticket } c
  refine ⟨⟨(told_handCompletion c _).engine_ok k.engine, beside.rest rest, beside.heeds k.heeds⟩, fun empty => beside.idleEmpty fun idle => ?_⟩
  have none := empty idle
  rw [count_eq_length] at none ⊢
  exact Nat.le_zero.mp (none ▸ sub.length_le)

/-- A BUS-PAUSE of an IDLE engine (R55, R110). -/
theorem kept_pause (k : LineScan s) (idle : s.engine.state = .idle) : LineKept s (enterPaused s) := by
  obtain ⟨c, -⟩ := cleared_of_idle k.engine idle
  refine ⟨⟨enterPaused_ok (s.engine.ok_iff.mp k.engine).1 c, ?_, heeds_of_stopped (enterPaused_stopped s)⟩,
    fun _ => idleEmpty_of_stopped (enterPaused_stopped s)⟩
  exact rest_enterPaused true k.rest.tables c.station c.work k.rest.bounds k.rest.stage.shape

theorem cleared_of_stopped (ok : s.engine.ok = true) (stopped : s.engine.running = false) : s.engine.Cleared := by
  obtain ⟨-, ⟨-, cleared, -⟩ | ⟨w, x, h⟩ | ⟨x, h⟩ | ⟨w, r, h⟩⟩ := s.engine.ok_iff.mp ok
  · exact cleared
  · exact absurd (stopped.symm.trans (working_runs (.inl h.state)).1) (by simp)
  · exact absurd (stopped.symm.trans (working_runs (.inl h.state)).1) (by simp)
  · exact absurd (stopped.symm.trans (working_runs (.inr h.state)).1) (by simp)

/-- A new configuration of a stopped engine: every failure count begins again under the new threshold (R61, R80). -/
theorem kept_lineConfig (k : LineScan s) {c : LineConfig} (stopped : s.engine.running = false) (ok : c.ok = true) :
    LineKept s { s with engine := { s.engine with config := c }, stations := s.stations.map (fun r => { r with failures := 0 }) } := by
  obtain ⟨schedule, specs, count, records⟩ := k.rest.tables
  have cleared := cleared_of_stopped k.engine stopped
  have again : (s.stations.map (fun r => { r with failures := 0 })).all (·.ok c.failureThreshold) = true := by
    refine List.all_eq_true.mpr fun x mem => ?_
    obtain ⟨r, old, rfl⟩ := List.mem_map.mp mem
    obtain ⟨⟨-, subUnits⟩, undefined, silent, quarantined, service, contact⟩ := (Station.ok_iff _ _).mp (List.all_eq_true.mp records r old)
    refine (Station.ok_iff _ _).mpr ⟨⟨Nat.zero_le _, subUnits⟩, fun none => ?_, silent, quarantined, service, contact⟩
    rw [undefined none]
    rfl
  have rest : LineRest true { s with engine := { s.engine with config := c }, stations := s.stations.map (fun r => { r with failures := 0 }) } := by
    refine ⟨⟨schedule, specs, by simpa using count, again⟩, fun n current => absurd (current.symm.trans cleared.station) (by simp),
      k.rest.bounds, ?_, k.rest.granted⟩
    obtain ⟨state, cycle, due, holdoff⟩ | ⟨d, n, cycling, -⟩ | ⟨d, n, cycling, -⟩ := k.rest.stage
    · exact .still state cycle due holdoff
    · exact absurd (stopped.symm.trans cycling.running) (by simp)
    · exact absurd (stopped.symm.trans cycling.running) (by simp)
  exact ⟨⟨lineConfig_ok k.engine ok, rest, k.heeds⟩, id⟩

/-! ### Starts (spec/00 section 5) -/

theorem startedStation_ok (k : StartKind) {r : Station} {old new : Nat} (ok : r.ok old = true) : (r.started k).ok new = true := by
  obtain ⟨⟨-, subUnits⟩, -⟩ := (Station.ok_iff _ _).mp ok
  unfold Station.started
  split
  · exact clearedStation_ok new
  · rw [Station.ok_iff]
    simp [subUnits]

theorem startedEntry_ok (k : StartKind) {e : Entry} (ok : e.ok = true) : (e.started k).ok = true := by
  obtain ⟨counts, defn, empty⟩ := (Entry.ok_iff _).mp ok
  have unlinked : ({ e with liveTicket := none } : Entry).ok = true :=
    (Entry.ok_iff _).mpr ⟨counts, defn, fun none => by rw [empty none]; rfl⟩
  cases k
  case pin => exact unlinked
  case soft => exact unlinked
  case clear => exact cleared_ok (wrap256_le _)
  all_goals exact cleared_ok (Nat.zero_le 255)

/-- What a start leaves of the engine's work, whatever its kind. -/
theorem started_free (k : StartKind) (e : LineEngine) :
    (e.started k).state = .idle ∧ (e.started k).work = none ∧ (e.started k).station = none := by
  unfold LineEngine.started
  split <;> exact ⟨rfl, rfl, rfl⟩

/-- The blocks after a start: nothing queued, nothing running, no cycle. -/
theorem rest_startBlocks (k : StartKind) (tables : s.Tables) : LineRest true (startBlocks k s) := by
  obtain ⟨-, work, station⟩ := started_free k s.engine
  obtain ⟨length, entries⟩ := (scheduleOk_iff s).mp tables.schedule
  have free : (startBlocks k s).engine.work = none := work
  have none : (startBlocks k s).engine.station = none := station
  refine ⟨⟨?_, ?_, ?_, ?_⟩, fun n current => absurd (current.symm.trans none) (by simp), ⟨Nat.zero_le _, Nat.zero_le _, .inr (Nat.zero_le _)⟩,
    .still (by simp [startBlocks, PollUnit.initial]) rfl rfl (by simp [startBlocks, PollUnit.initial]),
    fun n current => absurd (current.symm.trans free) (by simp)⟩
  · refine (scheduleOk_iff _).mpr ⟨by simpa [startBlocks] using length, fun x mem => ?_⟩
    obtain ⟨e, old, rfl⟩ := List.mem_map.mp mem
    exact startedEntry_ok k (entries e old)
  · unfold State.specsOk
    rw [free]
    rfl
  · simpa [startBlocks] using tables.count
  · refine List.all_eq_true.mpr fun x mem => ?_
    obtain ⟨r, old, rfl⟩ := List.mem_map.mp mem
    exact startedStation_ok k (List.all_eq_true.mp tables.records r old)

theorem startBlocks_idleEmpty (k : StartKind) (s : State) : (startBlocks k s).idleEmpty := fun _ => rfl

/-- A start (R163): the Poll Unit comes to its test on cleared blocks (R102, R114). -/
theorem kept_start (k : LineScan s) (kind : StartKind) (vdd kept : Bool) :
    LineKept s (start kind { s with vdd := vdd, backupKept := kept }) := by
  have tables : ({ s with vdd := vdd, backupKept := kept } : State).Tables :=
    ⟨k.rest.tables.schedule, k.rest.tables.specs, k.rest.tables.count, k.rest.tables.records⟩
  have rest := rest_startBlocks kind tables
  have engine : (startBlocks kind { s with vdd := vdd, backupKept := kept }).engine.ok = true := started_ok kind k.engine
  obtain ⟨scan, empty⟩ := kept_pollTest ((beside_raise _ (.start kind (startBlocks kind { s with vdd := vdd, backupKept := kept }).cal.running
    (startBlocks kind { s with vdd := vdd, backupKept := kept }).cal.timeValid
    (startBlocks kind { s with vdd := vdd, backupKept := kept }).cal.oscStable)).rest rest) engine
  exact ⟨scan, fun _ => empty (startBlocks_idleEmpty kind _)⟩

/-- The main side without VDD (R128). -/
theorem kept_powerLoss (k : LineScan s) : LineKept s { mainLost s with vdd := false } := by
  have rest := rest_startBlocks .warm k.rest.tables
  have lost : LineRest true { mainLost s with vdd := false } :=
    ⟨⟨rest.tables.schedule, rest.tables.specs, rest.tables.count, rest.tables.records⟩, rest.station, rest.bounds,
      .still (by simp [mainLost, startBlocks, PollUnit.initial]) rfl rfl (by simp [mainLost, startBlocks, PollUnit.initial]), rest.granted⟩
  exact ⟨⟨started_ok .warm k.engine, lost, fun powered => (by cases powered)⟩, fun _ => startBlocks_idleEmpty .warm s⟩

/-! ### A firing (R136 to R140) -/

theorem scan_of_beside (h : Beside s t) (k : LineScan s) (engine : t.engine = s.engine) : LineScan t :=
  ⟨engine ▸ k.engine, h.rest k.rest, h.heeds k.heeds⟩

/-- A firing inside an evaluation: the queue may have grown. -/
theorem scan_fireEntry (ev : SecondBoundary) (i : Nat) (k : LineScan s) (armed : (s.entryAt i).state = .armed) :
    LineScan (fireEntry ev i s) := by
  have used : (s.entryAt i).state ≠ .empty := by simp [armed]
  have ok := entryAt_ok k.rest.tables.schedule i
  have written : ∀ u : State, LineScan u → ∀ e : Entry, e.ok = true → LineScan (setEntry i e u) := fun u ku e oke =>
    scan_of_beside (beside_setEntry u i e fun _ => oke) ku rfl
  have told : ∀ u : State, LineScan u → ∀ b, LineScan (raise b u) := fun u ku b => scan_of_beside (beside_raise u b) ku rfl
  have missed := written s k _ (fired_ok ok used none none).2
  unfold fireEntry
  dsimp only
  split
  · exact told _ (written s k _ (fired_ok ok used s.cal.stamp (s.entryAt i).liveTicket).1) _
  · rename_i spec action
    have specOk : spec.ok = true := by
      obtain ⟨-, defn, -⟩ := (Entry.ok_iff _).mp ok
      have inRange := (s.entryAt i).defn.ok_iff.mp defn
      obtain ⟨-, -, -, -, actionOk⟩ := inRange
      rw [action] at actionOk
      exact actionOk
    split
    · split
      · exact missed
      · exact told _ missed _
    · split
      · have admitted : LineScan (admission (.schedule i (s.entryAt i).generation) spec s) :=
          ⟨k.engine, rest_admission k.rest _ specOk, k.heeds⟩
        have claimed := written _ admitted _ (fired_ok ok used s.cal.stamp (some s.ticketToGive)).1
        split
        · exact told _ claimed _
        · exact claimed
      · split
        · exact missed
        · exact told _ missed _

/-! ### Every act -/

theorem beside_of_interface (h : Interface s t) : Beside s t := by
  refine .of_eq h.engine h.queue h.stations h.poll h.vdd h.latnHeld fun ok => ?_
  rw [scheduleOk_iff, h.schedule, ← scheduleOk_iff]
  exact ok

theorem written_ok (st : EntryState) {d : EntryDef} (e : Entry) (ok : d.ok = true) (used : st ≠ .empty) : (e.written st d).ok = true :=
  (Entry.ok_iff _).mpr ⟨⟨wrap256_le _, by simp [Entry.written], by simp [Entry.written]⟩, ok, fun none => absurd none used⟩

theorem switched_ok {e : Entry} (st : EntryState) (ok : e.ok = true) (used : st ≠ .empty) : ({ e with state := st } : Entry).ok = true := by
  obtain ⟨counts, defn, -⟩ := (Entry.ok_iff _).mp ok
  exact (Entry.ok_iff _).mpr ⟨counts, defn, fun none => absurd none used⟩

/-- Every act keeps the line side. -/
theorem Act.line_kept (act : Act s t) (k : LineScan s) : LineKept s t := by
  have engine := act.engine_ok k.engine
  have same : ∀ {u : State}, u.engine = s.engine → u.queue = s.queue → u.stations = s.stations → u.poll = s.poll → u.vdd = s.vdd →
      u.latnHeld = s.latnHeld → u.schedule = s.schedule → Beside s u := fun a b c d e f g =>
    .of_eq a b c d e f fun ok => by rw [scheduleOk_iff, g, ← scheduleOk_iff]; exact ok
  cases act
  case interface h => exact (beside_of_interface h).kept k engine
  case start kind v b => exact kept_start k kind v b
  case powerLoss => exact kept_powerLoss k
  case backupLoss => exact Beside.kept (same rfl rfl rfl rfl rfl rfl rfl) k engine
  case calendar => exact Beside.kept (same rfl rfl rfl rfl rfl rfl rfl) k engine
  case raise b => exact (beside_raise s b).kept k engine
  case noticeTaken => exact Beside.kept (same rfl rfl rfl rfl rfl rfl rfl) k engine
  case noteAck i held =>
    refine Beside.kept ?_ k engine
    unfold reportLost
    split <;> exact same rfl rfl rfl rfl rfl rfl rfl
  case noteFetch => exact Beside.kept (same rfl rfl rfl rfl rfl rfl rfl) k engine
  case noteReplay => exact Beside.kept (same rfl rfl rfl rfl rfl rfl rfl) k engine
  case noteConfig => exact Beside.kept (same rfl rfl rfl rfl rfl rfl rfl) k engine
  case schWrite i st d ok state =>
    refine (beside_setEntry s i _ fun _ => written_ok st _ ok ?_).kept k engine
    obtain rfl | rfl := state <;> simp
  case schState i st used state =>
    exact (beside_setEntry s i _ fun ok => switched_ok st (entryAt_ok ok i) state).kept k engine
  case schDelete i => exact (beside_setEntry s i _ fun _ => cleared_ok (wrap256_le _)).kept k engine
  case report => exact (beside_takeNextReport s).kept k engine
  case stnDefine n su g p q subUnits => exact kept_stationServes k n _ _ (by simp) (define_ok g p q _ subUnits) rfl
  case stnForget n low other => exact kept_stnForget k _ low other
  case stnRestore n => exact kept_stationServes k n _ _ (by simp) (restored_ok (stationAt_ok k.rest.tables n)) rfl
  case send spec ok room => exact kept_send k ok
  case cancel c ticket => exact kept_cancel k _ ticket
  case pause idle => exact kept_pause k idle
  case setPause p working => exact Beside.kept (Beside.of_engine rfl rfl rfl rfl) k engine
  case resume stopped => exact kept_resume k stopped
  case lineConfig c stopped ok => exact kept_lineConfig k stopped ok
  case clearCounters => exact Beside.kept (Beside.of_engine rfl rfl rfl rfl) k engine
  case closeReferral r c answer opened claim => exact (beside_closeReferral c answer k.engine opened).kept k engine
  case countHoldTimeout => exact Beside.kept (Beside.of_engine rfl rfl rfl rfl) k engine
  case exchangeMoves => exact Beside.kept (Beside.of_engine rfl rfl rfl rfl) k engine
  case exchangeEnds current kind received => exact kept_endExchange k current kind received
  case nextAttempt => exact Beside.kept (Beside.of_engine rfl rfl rfl rfl) k engine
  case latnUnpowered held off =>
    exact ⟨⟨k.engine, k.rest.latn held, fun powered => absurd (off.symm.trans powered) (by simp)⟩, id⟩
  case latnHeld => exact kept_latnHeld k
  case latnReleased => exact kept_latnReleased k
  case holdoffExpiry => exact kept_holdoffExpiry k
  case presented => exact kept_requestPresented k
  case decide => exact .of_lineOk k.loose.decided
  case takeDecided => exact kept_takeDecided k

/-- Settles O9: every act keeps the line side in order; the grant decision that ends an evaluation finds the queue its firings
left, and empties it or gives the engine work. -/
theorem lineSideStaysConsistent : Obligations.LineSideStaysConsistent := by
  intro s t ok next
  refine step_keeps (P := fun u => u.lineOk = true) (Q := LineScan) ?act ?scan (fun u h => ((lineOk_iff_scan u).mp h).1)
    (fun u h => h.loose.decided) ok next
  case act =>
    intro u v act h
    obtain ⟨scan, empty⟩ := (lineOk_iff_scan u).mp h
    have kept := act.line_kept scan
    exact (lineOk_iff_scan v).mpr ⟨kept.scan, kept.empty empty⟩
  case scan =>
    rintro u v (act | ⟨ev, i, armed⟩) h
    · exact (act.line_kept h).scan
    · exact scan_fireEntry ev i h armed

end

end Sys2Proof.Machine
end

section
/-! SUPPORT. The step and the reset state (log 5, log 6), and the encodings of records, frames and characters (spec/02, spec/10,
spec/11). -/

namespace Sys2Proof.Machine

/-! ### The step and the state after reset -/

/-- Settles O1: the step's two cases. -/
theorem stepRunsFrontCommand : Obligations.StepRunsFrontCommand := by
  refine ⟨?front, ?idle⟩
  case front => exact fun c s => rfl
  case idle =>
    intro s none
    unfold step
    rw [none]

/-- Settles O2: the COLD start of an unpowered part sets every block, and the transmitter finds HRDY deasserted. -/
theorem resetIsColdStart : Obligations.ResetIsColdStart := by
  intro s vdd kept rstn latn hrdy entries stations choices pending
  obtain ⟨vdd', kept', rstn', latn', lrdy, hrdy', hbr1, hbr0, link, notices, cal, boundaries, schedule, reports, queue, engine,
    records, poll, choices', pending'⟩ := s
  dsimp only at vdd kept rstn latn hrdy entries stations choices pending
  subst vdd kept rstn latn hrdy choices pending
  have table : schedule.map (Entry.started .cold) = List.replicate 40 (Entry.cleared 0) := by
    rw [← entries]
    exact List.map_const'
  have cleared : records.map (Station.started .cold) = List.replicate 30 Station.cleared := by
    rw [← stations, ← List.map_const']
    exact List.map_congr_left fun r _ => if_pos (.inl rfl)
  have served : serveLink State.reset = State.reset := rfl
  show Host.Outcome.next (serveLink { State.reset with
    schedule := schedule.map (Entry.started .cold), stations := records.map (Station.started .cold) }) = .next State.reset
  rw [table, cleared]
  exact congrArg _ served

/-- Settles O3: the state after reset evaluates to satisfy each invariant. -/
theorem resetHoldsInvariants : Obligations.ResetHoldsInvariants := by
  refine ⟨?_, ?_, ?_, ?_, ?_, ?_⟩ <;> decide

/-! ### Records that requests carry (Table 11-2, Table 11-5) -/

/-- The byte without effect in a transaction's fields is 00h where the encoder writes it. -/
theorem txnBytesWith_zero (t : TxnSpec) : t.bytesWith 0x00#8 = t.bytes := by
  unfold TxnSpec.bytesWith
  split
  · rename_i absent
    unfold TxnSpec.bytes
    rw [Option.isNone_iff_eq_none.mp absent]
    rfl
  · rfl

/-- The bytes without effect in an entry definition are 00h where the encoder writes them. -/
theorem entryBytesWith_zero (d : EntryDef) : d.bytesWith 0x00#8 0x00#8 = d.bytes := by
  have day : (if d.day.isNone then d.bytes.set 4 0x00#8 else d.bytes) = d.bytes := by
    split
    · rename_i absent
      unfold EntryDef.bytes
      rw [Option.isNone_iff_eq_none.mp absent]
      rfl
    · rfl
  unfold EntryDef.bytesWith
  rw [day]
  dsimp only
  split
  · rfl
  · rename_i t action
    split
    · rename_i absent
      unfold EntryDef.bytes TxnSpec.bytes
      rw [action]
      dsimp only
      rw [Option.isNone_iff_eq_none.mp absent]
      rfl
    · rfl

/-- Settles O10: each decoder reads back what its encoder wrote. -/
theorem encodedRecordsDecode : Obligations.EncodedRecordsDecode := by
  refine ⟨?txn, ?entry, ?config, ?code⟩
  case txn =>
    intro t ok
    rw [← txnBytesWith_zero]
    exact txnSpecOf_bytesWith _ t ok
  case entry =>
    intro d ok
    rw [← entryBytesWith_zero]
    exact entryDefOf_bytesWith _ _ d ok
  case config => exact fun c ok => lineConfigOf_bytes c ok
  case code => exact ofCode_code

/-! ### Checks and characters (R22 to R24, R166, R167) -/

/-- A length byte, the payload and the check byte sum to 0 (R167). -/
theorem linkCheck_closes (payload : List Byte) : byte payload.length + payload.sum + linkCheck payload = 0#8 :=
  BitVec.add_right_neg _

/-- A check combined with what it was computed from leaves 0 (R24). -/
theorem lineCheck_closes (body : List Byte) : (body ++ [lineCheck body]).foldl (· ^^^ ·) 0x5A#8 = 0#8 := by
  rw [List.foldl_append]
  exact BitVec.xor_self

/-- Bit 7 of the destination byte adds 128 where a sub-unit is given (Table 11-2). -/
theorem subUnitBit_add (given : Bool) : ∀ n < 128,
    (if given then 0x80#8 else 0x00#8) ||| byte n = byte (n + if given then 128 else 0) := by
  revert given
  decide

/-- The destination byte in numbers: the kind and the number, and 128 for a sub-unit (Table 11-2). -/
theorem destinationByte_eq (d : Destination) (u : Option Nat) {n : Nat} (small : n < 128)
    (number : destinationByte d none = byte n) : destinationByte d u = byte (n + if u = none then 0 else 128) := by
  have parts : destinationByte d u = (if u.isSome then 0x80#8 else 0x00#8) ||| destinationByte d none := by
    unfold destinationByte
    simp only [Option.isSome_none, Bool.false_eq_true, if_false, BitVec.zero_or]
  have added : n + (if u.isSome = true then 128 else 0) = n + if u = none then 0 else 128 := by
    cases u <;> rfl
  rw [parts, number, subUnitBit_add _ n small, added]

theorem destinationByte_group : ∀ g ≤ 7, destinationByte (.group g) none = byte (32 + g) := by decide

/-- A line frame's bytes in the order of Table 11-8, its check last. -/
theorem lineFrame_bytes {d : Destination} {u : Option Nat} {n : Nat} (command : Byte) (args : List Byte)
    (first : destinationByte d u = byte n) :
    (LineFrame.build d u command args).bytes =
      ([byte n] ++ (u.map byte).toList ++ [command, byte args.length] ++ args) ++
        [([byte n] ++ (u.map byte).toList ++ [command, byte args.length] ++ args).foldl (· ^^^ ·) 0x5A#8] := by
  have body : lineBody d u command args = [byte n] ++ (u.map byte).toList ++ [command, byte args.length] ++ args := by
    unfold lineBody
    rw [first]
    simp only [List.append_assoc, List.cons_append, List.nil_append]
  rw [← body]
  rfl

/-- Settles O11: both checks close their frames, a line frame is laid out as R22 gives, and bits go least significant first. -/
theorem checksCloseFrames : Obligations.ChecksCloseFrames := by
  refine ⟨?link, ?line, ?layout, ?bits, ?signals⟩
  case link => exact fun payload => ⟨linkCheck payload, rfl, linkCheck_closes payload⟩
  case line => exact fun d u command args => lineCheck_closes (lineBody d u command args)
  case layout =>
    intro u command args
    have laid : ∀ (d : Destination) (n : Nat), n < 128 → destinationByte d none = byte n → _ := fun d n small number =>
      lineFrame_bytes command args (destinationByte_eq d u small number)
    cases u with
    | none =>
      exact ⟨fun n _ high => laid (.station n) n (by omega) (BitVec.zero_or), fun g high => laid (.group g) _ (by omega)
        (destinationByte_group g high), laid .all 64 (by decide) rfl⟩
    | some x =>
      exact ⟨fun n _ high => laid (.station n) n (by omega) (BitVec.zero_or), fun g high => laid (.group g) _ (by omega)
        (destinationByte_group g high), laid .all 64 (by decide) rfl⟩
  case bits =>
    intro b
    refine ⟨rfl, rfl, ?_⟩
    revert b
    decide
  case signals => exact fun f => rfl

end Sys2Proof.Machine
end

section
/-! SUPPORT. RESET-PART and what a start leaves (R163 to R165, R180, R181, spec/00 section 5). -/

namespace Sys2Proof.Machine

theorem LinkReady.withPins {s : State} (h : LinkReady s) (pins : Pins) : LinkReady (withPins pins s) :=
  ⟨h.on, h.intake, h.slot⟩

theorem exec_resetPart {tag scope : Byte} {pins : Pins} {data : List Byte} {s t : State} {st : ReplyStatus} (ready : LinkReady s)
    (owner : answerResetPart [scope] (withPins pins s) = ⟨st, data, t⟩) :
    exec (.resetPart tag [scope] pins) s = .next (answered 0x04#8 tag st data t) :=
  exec_ownerAnswers .resetPart (i := .resetPart tag [scope] pins) (s := withPins pins s) rfl (ready.withPins pins) rfl owner

/-- Settles O15: the scope byte's three cases. -/
theorem resetPartStarts : Obligations.ResetPartStarts := by
  intro s tag scope pins ready
  refine ⟨?soft, ?clear, ?other⟩
  case soft =>
    rintro rfl
    exact exec_resetPart ready rfl
  case clear =>
    rintro rfl
    exact exec_resetPart ready rfl
  case other =>
    intro big
    have unread : scopeOfByte scope = none := by
      have notZero : scope ≠ 0x00#8 := by rintro rfl; exact absurd big (by decide)
      have notOne : scope ≠ 0x01#8 := by rintro rfl; exact absurd big (by decide)
      unfold scopeOfByte
      rw [if_neg notZero, if_neg notOne]
    refine exec_resetPart ready ?_
    unfold answerResetPart
    dsimp only
    rw [unread]
    rfl

/-! ### What a start leaves (spec/00 section 5) -/

/-- A start finds LATN released: the blocks' values and the START notice. -/
theorem start_released (k : StartKind) {s : State} (released : s.latnHeld = false) :
    start k s = raise (.start k (startBlocks k s).cal.running (startBlocks k s).cal.timeValid (startBlocks k s).cal.oscStable)
      (startBlocks k s) := by
  unfold start pollTest
  dsimp only
  rw [if_neg]
  rintro ⟨-, held, -⟩
  exact absurd (released.symm.trans held) (by decide)

/-- A start finds LATN held: the Poll Unit begins its first cycle (R102, R114). -/
theorem start_held (k : StartKind) {s : State} (held : s.latnHeld = true) :
    start k s = pollTurn (pollBuild (raise (.start k (startBlocks k s).cal.running (startBlocks k s).cal.timeValid
      (startBlocks k s).cal.oscStable) (startBlocks k s))) := by
  obtain ⟨idle, -, -⟩ := started_free k s.engine
  have running : (s.engine.started k).running = true := by
    rw [LineEngine.running, idle]
    rfl
  exact if_pos ⟨rfl, held, running⟩

theorem started_calendar_eq (k : StartKind) (c : Calendar) : c.started k = if k = .cold then Calendar.cold else c := by
  cases k <;> rfl

theorem started_engine_eq (k : StartKind) (e : LineEngine) : e.started k = { LineEngine.initial with
    config := if k = .pin ∨ k = .soft then e.config else LineConfig.default
    counters := if k = .pin ∨ k = .soft then e.counters else LineCounters.zero } := by
  cases k <;> rfl

theorem started_station_eq (k : StartKind) (r : Station) : r.started k =
    if (k = .pin ∨ k = .soft) ∧ r.state ≠ .undefined then
      { r with state := .unknown, failures := 0, lastStatus := none, servicePending := false, lastContact := none }
    else Station.cleared := by
  unfold Station.started
  cases k <;> by_cases undefined : r.state = .undefined <;> simp [StartKind.clears, undefined]

theorem started_entry_eq (k : StartKind) (e : Entry) : e.started k =
    if k = .pin ∨ k = .soft then { e with liveTicket := none }
    else if k = .clear then Entry.cleared ((e.generation + 1) % 256) else Entry.cleared 0 := by
  cases k <;> rfl

theorem started_link_eq (k : StartKind) (rate : HostRate) (l : HostLink) : l.started k rate =
    { framer := .hunt, expected := 0, assembly := [], gapTimer := none, intake := [], replies := []
      sending := if k = .soft ∨ k = .clear then l.sending else none
      rate := rate
      counters := if k = .pin ∨ k = .soft then l.counters else LinkCounters.zero } := by
  cases k <;> rfl

/-- Settles O16: the fields of each block one by one; with LATN held the Poll Unit's test follows the same values. -/
theorem startLeavesInitialValues : Obligations.StartLeavesInitialValues := by
  refine ⟨?released, ?held⟩
  case released =>
    intro k s released
    rw [start_released k released]
    refine ⟨?notices, ⟨rfl, rfl, rfl⟩, ⟨rfl, rfl, rfl, rfl, rfl, rfl, rfl, rfl, rfl, rfl⟩, started_engine_eq k _, rfl,
      started_calendar_eq k _, ?stations, ?schedule, started_link_eq k _ _⟩
    case notices => cases k <;> exact ⟨rfl, rfl, rfl, rfl, rfl, rfl, rfl⟩
    case stations => exact List.map_congr_left fun r _ => started_station_eq k r
    case schedule => exact List.map_congr_left fun e _ => started_entry_eq k e
  case held =>
    intro k s held
    rw [start_released k (s := { s with latnHeld := false }) rfl]
    rw [start_held k held]
    have same : s = { s with latnHeld := true } := by rw [← held]
    rw [same]
    rfl

end Sys2Proof.Machine
end

section
/-! SUPPORT. What STN-FORGET, BUS-SEND, BUS-RESUME and REF-ANSWER answer (R6 to R8, R57, R59, R70, R89 to R91). -/

namespace Sys2Proof.Machine

/-! ### STN-FORGET (R70, R112) -/

/-- STN-FORGET as the Station Table answers it. -/
theorem exec_stnForget {tag n : Byte} {data : List Byte} {s t : State} {st : ReplyStatus} (ready : LinkReady s)
    (answer : answerStnForget [n] s = ⟨st, data, t⟩) : exec (.stnForget tag [n]) s = .next (answered 0x32#8 tag st data t) :=
  exec_ownerAnswers .stnForget rfl ready rfl answer

section
variable {n : Byte} {s : State}

theorem answerStnForget_badNumber (bad : n.toNat < 1 ∨ 30 < n.toNat) : answerStnForget [n] s = refuse .badArg s := by
  unfold answerStnForget
  dsimp only
  rw [inRange_eq_none_iff.mpr bad]

theorem answerStnForget_undefined (low : 1 ≤ n.toNat) (high : n.toNat ≤ 30) (undefined : (s.stationAt n.toNat).state = .undefined) :
    answerStnForget [n] s = refuse .notFound s := by
  unfold answerStnForget
  dsimp only
  rw [inRange_eq_toNat low high]
  exact if_pos undefined

theorem answerStnForget_current (low : 1 ≤ n.toNat) (high : n.toNat ≤ 30) (defined : (s.stationAt n.toNat).state ≠ .undefined)
    (current : s.engine.station = some n.toNat) : answerStnForget [n] s = refuse .busy s := by
  unfold answerStnForget
  dsimp only
  rw [inRange_eq_toNat low high]
  exact (if_neg defined).trans (if_pos current)

/-- A defined station that is not current is cleared, and the Poll Unit is told. -/
theorem answerStnForget_other (low : 1 ≤ n.toNat) (high : n.toNat ≤ 30) (defined : (s.stationAt n.toNat).state ≠ .undefined)
    (other : s.engine.station ≠ some n.toNat) :
    answerStnForget [n] s = accept [] (pollStationGone n.toNat
      (raise (.stationState n.toNat (s.stationAt n.toNat).state .undefined) (setStation n.toNat Station.cleared s))) := by
  unfold answerStnForget
  dsimp only
  rw [inRange_eq_toNat low high]
  exact (if_neg defined).trans (if_neg other)

end

/-- Without a cycle the Poll Unit has nothing to do (R112). -/
theorem pollStationGone_noCycle {s : State} (n : Nat) (none : s.poll.cycle = none) : pollStationGone n s = s := by
  unfold pollStationGone
  rw [none]

/-- A station whose request is not presented leaves the remaining list (R112). -/
theorem pollStationGone_filters {s : State} {n : Nat} {c : Cycle} (cycle : s.poll.cycle = some c)
    (waiting : c.inFlight ≠ some n ∨ c.request ≠ .presented) :
    pollStationGone n s = { s with poll := { s.poll with cycle := some { c with remaining := c.remaining.filter (· != n) } } } := by
  unfold pollStationGone
  rw [cycle]
  exact if_neg (not_and_or.mpr waiting)

/-- A station whose request is presented: the request is withdrawn and the unit turns to the next member (R112). -/
theorem pollStationGone_withdraws {s : State} {n : Nat} {c : Cycle} (cycle : s.poll.cycle = some c) (inFlight : c.inFlight = some n)
    (presented : c.request = .presented) : pollStationGone n s =
      pollTurn { s with poll := { s.poll with cycle := some { c with inFlight := none, request := .none }, due := false } } := by
  unfold pollStationGone
  rw [cycle]
  exact if_pos ⟨inFlight, presented⟩

/-- Settles O25: the refusals in their order, then what the Poll Unit does by its cycle. -/
theorem stnForgetAnswers : Obligations.StnForgetAnswers := by
  intro s tag n ready
  refine ⟨?badNumber, ?undefined, ?current, ?other⟩
  case badNumber => exact fun bad => exec_stnForget ready (answerStnForget_badNumber bad)
  case undefined => exact fun low high undefined => exec_stnForget ready (answerStnForget_undefined low high undefined)
  case current => exact fun low high defined current => exec_stnForget ready (answerStnForget_current low high defined current)
  case other =>
    intro low high defined other
    have told := answerStnForget_other low high defined other
    refine ⟨fun none => ?_, fun c cycle waiting => ?_, fun c cycle inFlight presented => ?_⟩
    · exact exec_stnForget ready (told.trans (congrArg (accept []) (pollStationGone_noCycle _ none)))
    · exact exec_stnForget ready (told.trans (congrArg (accept []) (pollStationGone_filters cycle waiting)))
    · exact exec_stnForget ready (told.trans (congrArg (accept []) (pollStationGone_withdraws cycle inFlight presented)))

/-! ### BUS-SEND, admitted (R6 to R8) -/

/-- A transaction in range with room for it is admitted and answered with its ticket and its place. -/
theorem answerBusSend_admitted {body : List Byte} {s : State} {t : TxnSpec} (h : txnSpecOf body = some t)
    (r : stationRefusal t s = none) (room : s.queue.refusesHost = false) :
    answerBusSend body s = accept (bytes16 s.ticketToGive ++ [byte ((admission .host t s).queue.lastPosition t.cls)])
      (decideGrant (admission .host t s)) := by
  unfold answerBusSend
  simp only [h, r, room, Bool.false_eq_true, if_false]

/-- The place and the queue after an admission, by class (R4, R8). -/
theorem admission_urgent {s : State} {t : TxnSpec} (o : Origin) (urgent : t.cls = .urgent) :
    (admission o t s).queue.lastPosition t.cls = s.queue.urgent.length + 1 ∧
      admission o t s = { s with queue := { s.queue with
        urgent := s.queue.urgent ++ [s.newTransaction o t], ticketCounter := nextTicket s.ticketToGive } } := by
  have placed : s.queue.place (s.newTransaction o t) = { s.queue with urgent := s.queue.urgent ++ [s.newTransaction o t] } := by
    unfold DispatchQueue.place
    have cls : (s.newTransaction o t).spec.cls = .urgent := urgent
    rw [cls]
  unfold admission
  rw [placed, urgent]
  exact ⟨List.length_append, rfl⟩

theorem admission_normal {s : State} {t : TxnSpec} (o : Origin) (normal : t.cls = .normal) :
    (admission o t s).queue.lastPosition t.cls = s.queue.urgent.length + s.queue.normal.length + 1 ∧
      admission o t s = { s with queue := { s.queue with
        normal := s.queue.normal ++ [s.newTransaction o t], ticketCounter := nextTicket s.ticketToGive } } := by
  have placed : s.queue.place (s.newTransaction o t) = { s.queue with normal := s.queue.normal ++ [s.newTransaction o t] } := by
    unfold DispatchQueue.place
    have cls : (s.newTransaction o t).spec.cls = .normal := normal
    rw [cls]
  unfold admission
  rw [placed, normal]
  exact ⟨congrArg (s.queue.urgent.length + ·) List.length_append, rfl⟩

/-- Settles O27: the transaction is spelled, accepted by the table and by the queue, and placed by its class. -/
theorem busSendAdmits : Obligations.BusSendAdmits := by
  intro s tag x held t ready ok accepted queued hosts
  have room : s.queue.refusesHost = false := by
    refine Bool.eq_false_iff.mpr fun full => ?_
    obtain many | many := (refusesHost_iff _).mp full <;> omega
  have admitted := answerBusSend_admitted (s := withLrdy held s) (txnSpecOf_bytesWith x t ok) (stationRefusal_none accepted) room
  refine ⟨fun urgent => ?_, fun normal => ?_⟩
  · obtain ⟨place, queue⟩ := admission_urgent (s := withLrdy held s) .host urgent
    rw [place, queue] at admitted
    exact exec_busSend ready (bodyFits_bytesWith x t ok) admitted
  · obtain ⟨place, queue⟩ := admission_normal (s := withLrdy held s) .host normal
    rw [place, queue] at admitted
    exact exec_busSend ready (bodyFits_bytesWith x t ok) admitted

/-! ### BUS-RESUME (R57, R59, R186) -/

/-- BUS-RESUME as the Line Engine answers it. -/
theorem exec_busResume {tag : Byte} {held : Bool} {data : List Byte} {s t : State} {st : ReplyStatus} (ready : LinkReady s)
    (answer : answerBusResume [] (withLrdy held s) = ⟨st, data, t⟩) :
    exec (.busResume tag [] held) s = .next (answered 0x3B#8 tag st data t) :=
  congrArg Host.Outcome.next (hostRequest_answers (k := .busResume) (ready.withLrdy held) rfl answer)

section
variable {s : State}

theorem answerBusResume_idle (idle : s.engine.state = .idle) : answerBusResume [] s = accept [] s := by
  simp only [answerBusResume, idle]

theorem answerBusResume_working (working : s.engine.state = .active ∨ s.engine.state = .held) :
    answerBusResume [] s = accept [] (setPause false s) := by
  obtain active | held := working
  · simp only [answerBusResume, active]
  · simp only [answerBusResume, held]

theorem answerBusResume_paused (paused : s.engine.state = .paused) : answerBusResume [] s = accept [] (resumeIdle s) := by
  simp only [answerBusResume, paused]

theorem answerBusResume_faultHeld (fault : s.engine.state = .fault) (held : s.lrdyHeld = true) :
    answerBusResume [] s = refuse .state s := by
  simp only [answerBusResume, fault, held, if_true]

theorem answerBusResume_faultReleased (fault : s.engine.state = .fault) (released : s.lrdyHeld = false) :
    answerBusResume [] s = accept [] (resumeIdle (raise (.busState .resumed) s)) := by
  simp only [answerBusResume, fault, released, Bool.false_eq_true, if_false]

/-- The Poll Unit has no cycle to begin: the engine decides. -/
theorem resumeIdle_decides (noNeed : s.poll.state ≠ .idle ∨ s.latnHeld = false) :
    resumeIdle s = decideGrant { s with engine := { s.engine with state := .idle } } := by
  refine if_neg ?_
  rintro ⟨idle, held⟩
  obtain other | released := noNeed
  · exact other idle
  · exact absurd (held.symm.trans released) (by decide)

/-- The Poll Unit has a cycle to begin: its request is presented before or after the engine's decision (log 7). -/
theorem resumeIdle_either (idle : s.poll.state = .idle) (held : s.latnHeld = true) :
    let c : State := { s with engine := { s.engine with state := .idle }, choices := s.choices + 1 }
    resumeIdle s = decideThenPresent c ∨
      resumeIdle s = decideGrant { pollTest c with poll := { (pollTest c).poll with due := false } } := by
  have begins : resumeIdle s = if Config.resumePresentsFirst s.choices then
      decideGrant { pollTest { s with engine := { s.engine with state := .idle }, choices := s.choices + 1 } with
        poll := { (pollTest { s with engine := { s.engine with state := .idle }, choices := s.choices + 1 }).poll with due := false } }
      else decideThenPresent { s with engine := { s.engine with state := .idle }, choices := s.choices + 1 } := if_pos ⟨idle, held⟩
  rw [begins]
  split
  · exact .inr rfl
  · exact .inl rfl

end

/-- Settles O31, by the engine state and by whether the Poll Unit has a cycle to begin. -/
theorem busResumeAnswers : Obligations.BusResumeAnswers := by
  intro s tag held ready
  refine ⟨?idle, ?working, ?faultHeld, ?noNeed, ?either⟩
  case idle => exact fun idle => exec_busResume ready (answerBusResume_idle idle)
  case working => exact fun working => exec_busResume ready (answerBusResume_working working)
  case faultHeld => exact fun fault level => exec_busResume ready (answerBusResume_faultHeld fault level)
  case noNeed =>
    intro noNeed
    refine ⟨fun paused => ?_, fun fault level => ?_⟩
    · exact exec_busResume ready ((answerBusResume_paused (s := withLrdy held s) paused).trans
        (congrArg (accept []) (resumeIdle_decides (s := withLrdy held s) noNeed)))
    · exact exec_busResume ready ((answerBusResume_faultReleased (s := withLrdy held s) fault level).trans
        (congrArg (accept []) (resumeIdle_decides (s := raise (.busState .resumed) (withLrdy held s)) noNeed)))
  case either =>
    intro idle latn
    refine ⟨fun paused => ⟨_, ?_, exec_busResume ready (answerBusResume_paused paused)⟩,
      fun fault level => ⟨_, ?_, exec_busResume ready (answerBusResume_faultReleased fault level)⟩⟩
    · exact resumeIdle_either (s := withLrdy held s) idle latn
    · exact resumeIdle_either (s := raise (.busState .resumed) (withLrdy held s)) idle latn

/-! ### REF-ANSWER (R89 to R91) -/

/-- REF-ANSWER as the Line Engine answers it. -/
theorem exec_refAnswer {tag id v : Byte} {answer data : List Byte} {held : Bool} {s t : State} {st : ReplyStatus} (ready : LinkReady s)
    (few : answer.length ≤ 61) (owner : answerRefAnswer (id :: v :: byte answer.length :: answer) (withLrdy held s) = ⟨st, data, t⟩) :
    exec (.refAnswer tag (id :: v :: byte answer.length :: answer) held) s = .next (answered 0x3E#8 tag st data t) := by
  have fits : bodyFits .refAnswer (id :: v :: byte answer.length :: answer) = true := by
    have count : (byte answer.length).toNat = answer.length := byte_toNat (by omega)
    refine (Bool.and_eq_true _ _).mpr ⟨decide_eq_true ?_, ?_⟩
    · show answer.length + 1 + 1 + 1 ≤ 64
      omega
    · show (answer.length + 1 + 1 + 1 == 3 + (byte answer.length).toNat) = true
      rw [count, beq_iff_eq]
      omega
  exact congrArg Host.Outcome.next (hostRequest_answers (k := .refAnswer) (ready.withLrdy held) fits owner)

section
variable {id v : Byte} {answer : List Byte} {s : State}

theorem answerRefAnswer_bad (few : answer.length ≤ 61) (bad : id = 0#8 ∨ 1 < v.toNat ∨ 8 < answer.length) :
    answerRefAnswer (id :: v :: byte answer.length :: answer) s = refuse .badArg s := by
  have count : (byte answer.length).toNat = answer.length := byte_toNat (by omega)
  unfold answerRefAnswer
  dsimp only
  split
  · rename_i yes verdict
    have small : v.toNat ≤ 1 := by
      unfold acceptOfByte at verdict
      split_ifs at verdict with accept reject
      · rw [accept]; decide
      · rw [reject]; decide
    obtain zero | big | many := bad
    · exact if_pos (.inl zero)
    · exact absurd small (Nat.not_le.mpr big)
    · exact if_pos (.inr (count.symm ▸ many))
  · rfl

theorem acceptOfByte_cases (small : v.toNat ≤ 1) : (v = 0#8 ∧ acceptOfByte v = some true) ∨ (v = 1#8 ∧ acceptOfByte v = some false) := by
  obtain rfl | rfl := eq_zero_or_eq_one_of_le small
  · exact .inl ⟨rfl, rfl⟩
  · exact .inr ⟨rfl, rfl⟩

theorem answerRefAnswer_stale (named : id ≠ 0#8) (small : v.toNat ≤ 1) (few : answer.length ≤ 8)
    (other : ∀ r : Referral, s.engine.referral = some r → r.id ≠ id.toNat) :
    answerRefAnswer (id :: v :: byte answer.length :: answer) s = refuse .stale s := by
  have count : (byte answer.length).toNat = answer.length := byte_toNat (by omega)
  have good : ¬ (id = 0#8 ∨ 8 < (byte answer.length).toNat) := by
    rw [count]
    exact not_or.mpr ⟨named, Nat.not_lt.mpr few⟩
  unfold answerRefAnswer
  dsimp only
  split
  · rw [if_neg good]
    split
    · rename_i r opened
      exact if_neg (other r opened)
    · rfl
  · rename_i unread
    obtain ⟨-, read⟩ | ⟨-, read⟩ := acceptOfByte_cases small
    · exact absurd (unread.symm.trans read) (by simp)
    · exact absurd (unread.symm.trans read) (by simp)

theorem answerRefAnswer_open {r : Referral} {yes : Bool} (named : id ≠ 0#8) (verdict : acceptOfByte v = some yes) (few : answer.length ≤ 8)
    (opened : s.engine.referral = some r) (same : r.id = id.toNat) : answerRefAnswer (id :: v :: byte answer.length :: answer) s =
      accept [] (if yes then closeReferral r .answeredAccept answer s else closeReferral r .answeredReject [] s) := by
  have count : (byte answer.length).toNat = answer.length := byte_toNat (by omega)
  have good : ¬ (id = 0#8 ∨ 8 < (byte answer.length).toNat) := by
    rw [count]
    exact not_or.mpr ⟨named, Nat.not_lt.mpr few⟩
  unfold answerRefAnswer
  dsimp only
  rw [verdict]
  dsimp only
  rw [if_neg good, opened]
  exact if_pos same

end

/-- Settles O33: the refusals in their order, then the closure by the verdict. -/
theorem refAnswerAnswers : Obligations.RefAnswerAnswers := by
  intro s tag id v answer held ready few
  refine ⟨?bad, ?stale, ?opened⟩
  case bad => exact fun bad => exec_refAnswer ready few (answerRefAnswer_bad few bad)
  case stale => exact fun named small short other => exec_refAnswer ready few (answerRefAnswer_stale named small short other)
  case opened =>
    intro r named short opened same
    refine ⟨?accepted, ?rejected⟩
    case accepted =>
      rintro rfl
      exact exec_refAnswer ready few (answerRefAnswer_open (s := withLrdy held s) (yes := true) named rfl short opened same)
    case rejected =>
      rintro rfl
      exact exec_refAnswer ready few (answerRefAnswer_open (s := withLrdy held s) (yes := false) named rfl short opened same)

end Sys2Proof.Machine
end

section
/-! SUPPORT. The interpreter, the transmitter and the receiver (R168 to R176). -/

namespace Sys2Proof.Machine

/-! ### Requests, whatever their command (R172, R173) -/

theorem requestLevels_linkReady {s : State} (h : LinkReady s) (k : RequestKind) (pins : Pins) : LinkReady (requestLevels k pins s) := by
  cases k
  case resetPart => exact h.withPins pins
  case busSend => exact h.withLrdy _
  case busCancel => exact h.withLrdy _
  case busResume => exact h.withLrdy _
  case refAnswer => exact h.withLrdy _
  all_goals exact h

/-- The command of a kind is a good frame of that kind, at the pin levels it carries. -/
theorem exec_requestCommand (k : RequestKind) (tag : Byte) (body : List Byte) (pins : Pins) (s : State) :
    exec (requestCommand k tag body pins) s = .next (goodFrame { kind := k.code, tag := tag, body := body } (requestLevels k pins s)) := by
  cases k <;> rfl

theorem ofCode_unknown {kind : Byte} (unknown : ∀ k : RequestKind, k.code ≠ kind) : RequestKind.ofCode kind = none := by
  unfold RequestKind.ofCode
  exact List.find?_eq_none.mpr fun k _ => by simpa using unknown k

/-- Settles O38: an unknown kind is answered ahead of its body's length, and a misfit ahead of its owner. -/
theorem unknownAndMisfitAnswers : Obligations.UnknownAndMisfitAnswers := by
  refine ⟨?unknown, ?misfit⟩
  case unknown =>
    intro s kind tag body ready unknown
    show Host.Outcome.next (goodFrame { kind := kind, tag := tag, body := body } s) = _
    rw [goodFrame_ready _ s ready]
    unfold serveFrame
    dsimp only
    rw [ofCode_unknown unknown]
    rfl
  case misfit =>
    intro s k tag body pins ready misfit
    have refused : answerRequest k body (requestLevels k pins s) = refuse .badLength (requestLevels k pins s) := by
      unfold answerRequest
      rw [misfit]
      rfl
    rw [exec_requestCommand]
    refine congrArg Host.Outcome.next ?_
    refine (hostRequest_ready k tag body _ (requestLevels_linkReady ready k pins)).trans ?_
    rw [refused]
    rfl

/-! ### A link that cannot move (R170, R172) -/

theorem transmit_held {s : State} (held : s.mayTransmit = false) : transmit s = s := by
  unfold transmit
  rw [held]
  rfl

/-- With 4 replies that cannot leave, serving the link changes nothing. -/
theorem serveLink_blocked {s : State} (held : s.mayTransmit = false) (full : s.link.replies.length = 4) : serveLink s = s := by
  have stays : interpret s.link.intake.length s = s := interpret_full _ s (le_of_eq full.symm)
  unfold serveLink
  split
  · dsimp only
    rw [stays, transmit_held held, stays]
  · rfl

/-- What a request's pin levels leave of what the link depends on. -/
theorem requestLevels_link (k : RequestKind) (pins : Pins) (s : State) : (requestLevels k pins s).link = s.link ∧
    (requestLevels k pins s).linkOn = s.linkOn ∧ (requestLevels k pins s).mayTransmit = s.mayTransmit := by
  cases k <;> exact ⟨rfl, rfl, rfl⟩

theorem placeFrame_room (f : Frame) {s : State} (room : s.link.intake.length < 4) :
    placeFrame f s = { s with link := { s.link with intake := s.link.intake ++ [f] } } := if_pos room

theorem placeFrame_full (f : Frame) {s : State} (full : 4 ≤ s.link.intake.length) :
    placeFrame f s = { s with link := { s.link with
      counters := { s.link.counters with overflow := min 65535 (s.link.counters.overflow + 1) } } } := by
  refine (if_neg (Nat.not_lt.mpr full)).trans ?_
  unfold bump
  rw [sat_eq_min]

/-- Settles O39: the frame reaches the intake queue or is dropped, and then nothing can move. -/
theorem requestsWaitForSlot : Obligations.RequestsWaitForSlot := by
  intro s k tag body pins
  obtain ⟨link, on, may⟩ := requestLevels_link k pins s
  rw [exec_requestCommand]
  generalize requestLevels k pins s = u at link on may ⊢
  have blocked : s.transmitterHeld = true → u.mayTransmit = false := fun held => may.trans (by simpa [State.transmitterHeld] using held)
  unfold goodFrame
  rw [on, ← link]
  refine ⟨?waits, ?dropped, ?off⟩
  case waits =>
    intro linkOn full held room
    rw [if_pos linkOn, placeFrame_room _ room]
    exact congrArg Host.Outcome.next (serveLink_blocked (blocked held) full)
  case dropped =>
    intro linkOn full held many
    rw [if_pos linkOn, placeFrame_full _ many]
    exact congrArg Host.Outcome.next (serveLink_blocked (blocked held) full)
  case off =>
    intro linkOff
    rw [linkOff]
    rfl

/-! ### The transmitter's decision (R156, R175, R176) -/

section
variable {s : State}

theorem mayTransmit_of_idle (ready : s.hrdy = true) (idle : s.link.sending = none) : s.mayTransmit = true := by
  unfold State.mayTransmit
  rw [ready, idle]
  rfl

theorem mayTransmit_of_busy (busy : s.hrdy = false ∨ s.link.sending ≠ none) : s.mayTransmit = false := by
  unfold State.mayTransmit
  obtain low | sending := busy
  · rw [low]
    rfl
  · cases frame : s.link.sending with
    | none => exact absurd frame sending
    | some f => exact Bool.and_false _

theorem transmit_reply {f : Frame} {rest : List Frame} (may : s.mayTransmit = true) (queued : s.link.replies = f :: rest) :
    transmit s = { s with link := { s.link with replies := rest, sending := some { frame := f, rate := s.link.rate } } } := by
  unfold transmit
  rw [if_pos may, queued]

/-- With no reply queued the transmitter takes the eligible notice. -/
theorem transmit_notice {n : Notice} (may : s.mayTransmit = true) (none : s.link.replies = []) (eligible : s.notices.eligible = some n) :
    transmit s = { s with
      link := { s.link with sending := some { frame := n.frame, rate := s.link.rate } }, notices := s.notices.taken } := by
  unfold transmit
  rw [if_pos may, none, eligible]

theorem transmit_nothing (noReply : s.link.replies = []) (noNotice : s.notices.eligible = none) : transmit s = s := by
  unfold transmit
  rw [noReply, noNotice]
  exact ite_self s

/-- The oldest untransmitted notice is the first behind transmitted ones, and it is the one marked. -/
theorem oldest_untransmitted {old new : List Notice} {n : Notice} (sent : ∀ x ∈ old, x.transmitted = true) (fresh : n.transmitted = false) :
    (old ++ n :: new).find? (fun x => !x.transmitted) = some n ∧
      markOldest (old ++ n :: new) = old ++ { n with transmitted := true } :: new := by
  induction old with
  | nil => simp [markOldest, fresh]
  | cons x rest ih =>
    have first := sent x List.mem_cons_self
    obtain ⟨found, marked⟩ := ih fun y mem => sent y (List.mem_cons_of_mem x mem)
    simp [markOldest, first, found, marked]

theorem eligible_none (nothing : (∀ x ∈ s.notices.queue, x.transmitted = true) ∨ (s.notices.mode = .pull ∧ s.notices.credit = 0)) :
    s.notices.eligible = none := by
  unfold NoticeUnit.eligible
  split
  · rename_i allowed
    obtain sent | ⟨pull, noCredit⟩ := nothing
    · exact List.find?_eq_none.mpr fun x mem => by simp [sent x mem]
    · simp [pull, noCredit] at allowed
  · rfl

end

/-! ### The frame of a notice (section 11.4) -/

/-- A notice's frame, its timestamp written out. -/
theorem noticeFrame_eq (n : Notice) {kind : Byte} {body : List Byte} (code : n.body.kindCode = kind) (bytes : n.body.bytes = body) :
    n.frame = { kind := kind, tag := byte n.seq, body := (match n.timestamp with
      | some t => [0x01#8] ++ (bytes16 t.day ++ [byte t.hour, byte t.minute, byte t.second, byte t.fraction])
      | none => List.replicate 7 0x00#8) ++ body } := by
  unfold Notice.frame
  rw [code, bytes]
  cases n.timestamp <;> rfl

theorem subUnitByte_eq (u : Option Nat) : subUnitByte u = match u with
    | some x => byte x
    | none => 0xFF#8 := by
  cases u <;> rfl

theorem referralOrigin_eq (o : ReferralOrigin) : o.bytes = match o with
    | .ticket t => bytes16 t
    | .poll => [0x00#8, 0x00#8] := by
  cases o <;> rfl

/-- A completion's bytes for an origin's index and generation (Table 11-7). -/
theorem completionBytes_eq (c : Completion) {index generation : Nat}
    (place : (match c.origin with | .host => (0x3F, 0) | .schedule i g => (i, g)) = (index, generation)) :
    c.bytes = (bytes16 c.ticket ++
      [byte (index + (if c.admitted = none then 0 else 128)), byte generation, byte (c.outcome.code + 16 * c.attempts)]) ++
      ((match c.admitted with
        | some t => bytes16 t.day ++ [byte t.hour, byte t.minute, byte t.second, byte t.fraction]
        | none => []) ++
      (match c.reply with
        | some r => r.status :: r.data
        | none => [])) := by
  obtain ⟨ticket, origin, outcome, reply, attempts, admitted⟩ := c
  cases origin <;> cases place <;> cases admitted <;> cases reply <;> simp [Completion.bytes, Timestamp.bytes, Reply.statusData]

/-- Settles O40: the transmitter's cases, and a notice's frame by its kind. -/
theorem transmitterDecides : Obligations.TransmitterDecides := by
  refine ⟨fun s => ⟨?busy, ?reply, ?notice, ?nothing, serveLink_empty s, serveLink_off s⟩, fun n => ?frames⟩
  case busy => exact fun busy => transmit_held (mayTransmit_of_busy busy)
  case reply => exact fun f rest ready idle queued => transmit_reply (mayTransmit_of_idle ready idle) queued
  case notice =>
    intro old new n ready idle none queue sent fresh allowed
    obtain ⟨found, marked⟩ := oldest_untransmitted (new := new) sent fresh
    have eligible : s.notices.eligible = some n := by
      unfold NoticeUnit.eligible
      rw [if_pos allowed, queue]
      exact found
    rw [transmit_notice (mayTransmit_of_idle ready idle) none eligible]
    unfold NoticeUnit.taken
    rw [queue, marked]
  case nothing => exact fun none nothing => transmit_nothing none (eligible_none nothing)
  case frames =>
    refine ⟨?start, ?done, ?fired, ?referral, ?closed, ?service, ?station, ?bus, ?cal, ?lost⟩
    case start => exact fun k r v o body => noticeFrame_eq n (body ▸ rfl) (body ▸ rfl)
    case done =>
      intro c body
      refine ⟨fun host => noticeFrame_eq n (body ▸ rfl) ?_, fun i g schedule => noticeFrame_eq n (body ▸ rfl) ?_⟩
      · rw [body]
        exact completionBytes_eq c (by rw [host])
      · rw [body]
        exact completionBytes_eq c (by rw [schedule])
    case fired =>
      intro i g r t body
      refine noticeFrame_eq n (body ▸ rfl) ?_
      rw [body]
      cases r <;> rfl
    case referral =>
      intro i st u o h q d body
      refine noticeFrame_eq n (body ▸ rfl) ?_
      rw [body]
      cases u <;> cases o <;> rfl
    case closed =>
      intro i c v o st u oc fr body
      refine noticeFrame_eq n (body ▸ rfl) ?_
      rw [body]
      cases u <;> cases o <;> cases fr <;> rfl
    case service => exact fun st b d body => noticeFrame_eq n (body ▸ rfl) (body ▸ rfl)
    case station => exact fun st old new body => noticeFrame_eq n (body ▸ rfl) (body ▸ rfl)
    case bus => exact fun e body => noticeFrame_eq n (body ▸ rfl) (body ▸ rfl)
    case cal => exact fun e t body => noticeFrame_eq n (body ▸ rfl) (body ▸ rfl)
    case lost => exact fun c body => noticeFrame_eq n (body ▸ rfl) (body ▸ rfl)

end Sys2Proof.Machine
end

section
/-! SUPPORT. The pins of the host link and the receiver (R168 to R172, R175, R176, R181). -/

namespace Sys2Proof.Machine

/-! ### The interpreter takes one frame (R172, R180) -/

/-- After a frame is served at 3 replies, either every slot is full or no frame waits. -/
theorem serveFrame_fills (f : Frame) {s : State} (three : s.link.replies.length = 3) :
    (serveFrame f s).link.intake = [] ∨ (serveFrame f s).link.replies.length = 4 := by
  have placed : ∀ (r : Frame) (t : State), LinkAnswered s t →
      (placeReply r t).link.intake = [] ∨ (placeReply r t).link.replies.length = 4 := by
    intro r t answered
    have room : t.link.replies = s.link.replies → (placeReply r t).link.replies.length = 4 := by
      intro same
      rw [placeReply_link]
      dsimp only
      rw [same, List.length_append, List.length_singleton, three]
    obtain same | cleared | ⟨k, rate, scope, started⟩ := answered.link
    · exact .inr (room (by rw [same]))
    · exact .inr (room (by rw [cleared]))
    · refine .inl ?_
      rw [placeReply_link]
      dsimp only
      rw [started, started_intake]
  unfold serveFrame
  split
  · exact placed _ _ (linkAnswered_answerRequest _ f.body s)
  · exact placed _ _ (LinkSide.refl s).answered

/-- With one slot free the interpreter takes the oldest frame alone. -/
theorem interpret_oneSlot (fuel : Nat) {s : State} {f : Frame} {fs : List Frame} (three : s.link.replies.length = 3)
    (waiting : s.link.intake = f :: fs) :
    interpret (fuel + 1) s = serveFrame f { s with link := { s.link with intake := fs } } := by
  have slot : s.link.replies.length < Config.replyCapacity := by
    rw [three]
    decide
  unfold interpret
  rw [waiting]
  dsimp only
  rw [if_pos slot]
  obtain none | full := serveFrame_fills f (s := { s with link := { s.link with intake := fs } }) three
  · exact interpret_empty fuel _ none
  · exact interpret_full fuel _ (le_of_eq full.symm)

/-- A reply taken from a full queue frees the slot the oldest waiting frame is served into. -/
theorem serveLink_freesSlot {s : State} {r f : Frame} {rs fs : List Frame} (on : s.linkOn = true) (may : s.mayTransmit = true)
    (queued : s.link.replies = r :: rs) (full : s.link.replies.length = 4) (waiting : s.link.intake = f :: fs) :
    serveLink s = serveFrame f { s with link := { s.link with
      intake := fs, replies := rs, sending := some { frame := r, rate := s.link.rate } } } := by
  have stays : interpret s.link.intake.length s = s := interpret_full _ s (le_of_eq full.symm)
  have three : rs.length = 3 := by
    rw [queued, List.length_cons] at full
    omega
  have count : s.link.intake.length = fs.length + 1 := by rw [waiting, List.length_cons]
  unfold serveLink
  rw [if_pos on]
  dsimp only
  rw [stays, transmit_reply may queued]
  dsimp only
  rw [count]
  exact interpret_oneSlot fs.length (s := { s with link := { s.link with
    replies := rs, sending := some { frame := r, rate := s.link.rate } } }) three waiting

/-! ### The pins (R175, R176) -/

theorem exec_transmitFrameEnd {s : State} (pins : Pins) (on : s.linkOn = true) (sending : s.link.sending ≠ none) :
    exec (.transmitFrameEnd pins) s = .next (serveLink (endFrame (withPins pins s))) := by
  have powered : s.vdd = true := (Bool.and_eq_true_iff.mp on).1
  have busy : (withPins pins s).link.sending.isSome = true := Option.isSome_iff_ne_none.mpr sending
  show Host.Outcome.next (if _ then mainEvent endFrame (withPins pins s) else _) = _
  rw [if_pos busy]
  exact congrArg Host.Outcome.next (if_pos powered)

theorem exec_transmitFrameEnd_idle {s : State} (pins : Pins) (idle : s.link.sending = none) :
    exec (.transmitFrameEnd pins) s = .next (withPins pins s) := by
  have free : ¬ (withPins pins s).link.sending.isSome = true := by
    show ¬ s.link.sending.isSome = true
    rw [idle]
    decide
  exact congrArg Host.Outcome.next (if_neg free)

/-- Settles O41: with no frame waiting the link is the transmitter's decision; a full reply queue frees one slot or stays. -/
theorem linkPinEvents : Obligations.LinkPinEvents := by
  refine ⟨fun s => rfl, ?decides, ?full, ?reset, ?taken, fun s pins => exec_transmitFrameEnd_idle pins⟩
  case decides =>
    intro s pins on none
    refine ⟨congrArg Host.Outcome.next (serveLink_empty _ on none), fun sending => ?_⟩
    rw [exec_transmitFrameEnd pins on sending]
    exact congrArg Host.Outcome.next (serveLink_empty _ on none)
  case full =>
    intro s pins r f rs fs on queued four waiting s1 taken
    refine ⟨?endHigh, ?endLow, ?idle, ?busy⟩
    case endHigh =>
      intro high sending
      rw [exec_transmitFrameEnd pins on sending]
      exact congrArg Host.Outcome.next (serveLink_freesSlot on (mayTransmit_of_idle high rfl) queued four waiting)
    case endLow =>
      intro low sending
      rw [exec_transmitFrameEnd pins on sending]
      exact congrArg Host.Outcome.next (serveLink_blocked (mayTransmit_of_busy (.inl low)) four)
    case idle =>
      exact fun idle => congrArg Host.Outcome.next (serveLink_freesSlot on (mayTransmit_of_idle rfl idle) queued four waiting)
    case busy => exact fun sending => congrArg Host.Outcome.next (serveLink_blocked (mayTransmit_of_busy (.inr sending)) four)
  case reset => exact fun s tag => ⟨rfl, rfl⟩
  case taken =>
    intro s k tag body pins ready
    rw [exec_requestCommand]
    exact congrArg Host.Outcome.next (goodFrame_ready _ _ (requestLevels_linkReady ready k pins))

/-! ### The receiver (R168 to R170) -/

section
variable {s : State} {b : Byte}

theorem receiveByte_sync (hunt : s.link.framer = .hunt) (sync : b = 0xC3#8) : receiveByte b s = { s with link :=
    { s.link with framer := .length, expected := 0, assembly := [], gapTimer := some 20 } } := by
  unfold receiveByte
  rw [hunt]
  exact if_pos sync

theorem receiveByte_stray (hunt : s.link.framer = .hunt) (stray : b ≠ 0xC3#8) : receiveByte b s = { s with link :=
    { s.link with counters := { s.link.counters with stray := bump s.link.counters.stray } } } := by
  unfold receiveByte
  rw [hunt]
  exact if_neg stray

theorem receiveByte_length (length : s.link.framer = .length) (least : 2 ≤ b.toNat) (most : b.toNat ≤ 66) :
    receiveByte b s = { s with link := { s.link with framer := .payload, expected := b.toNat, gapTimer := some 20 } } := by
  unfold receiveByte
  rw [length]
  exact if_pos ⟨least, most⟩

theorem receiveByte_badLength (length : s.link.framer = .length) (bad : b.toNat < 2 ∨ 66 < b.toNat) :
    receiveByte b s = toHunt (countLink (fun c => { c with length := bump c.length }) s) := by
  unfold receiveByte
  rw [length]
  exact if_neg (by omega)

theorem receiveByte_payload (payload : s.link.framer = .payload) : receiveByte b s = { s with link :=
    { s.link with assembly := s.link.assembly ++ [b], gapTimer := some 20,
                  framer := if s.link.assembly.length + 1 = s.link.expected then .check else .payload } } := by
  unfold receiveByte
  rw [payload]
  rfl

/-- A check byte that closes the sum completes the frame of its payload. -/
theorem receiveByte_frame {k t : Byte} {body : List Byte} (check : s.link.framer = .check)
    (payload : s.link.assembly = k :: t :: body) (agrees : byte s.link.expected + s.link.assembly.sum + b = 0#8) :
    receiveByte b s = placeFrame { kind := k, tag := t, body := body } (toHunt s) := by
  have good : checkAgrees s.link.expected s.link.assembly b = true := beq_iff_eq.mpr agrees
  unfold receiveByte
  rw [check]
  dsimp only
  rw [if_pos good, payload]
  rfl

theorem receiveByte_badCheck (check : s.link.framer = .check)
    (differs : byte s.link.expected + s.link.assembly.sum + b ≠ 0#8) :
    receiveByte b s = toHunt (countLink (fun c => { c with check := bump c.check }) s) := by
  have bad : ¬ checkAgrees s.link.expected s.link.assembly b = true := fun good => differs (beq_iff_eq.mp good)
  unfold receiveByte
  rw [check]
  exact if_neg bad

theorem gapExpiry_running (running : s.link.gapTimer ≠ none) :
    gapExpiry s = toHunt (countLink (fun c => { c with gap := bump c.gap }) s) :=
  if_pos (Option.isSome_iff_ne_none.mpr running)

theorem exec_hostByteReceived {t : State} (pins : Pins) (on : s.linkOn = true) (moves : receiveByte b (withPins pins s) = t) :
    exec (.hostByteReceived b pins) s = .next (serveLink t) := by
  rw [← moves]
  exact congrArg Host.Outcome.next (if_pos on)

end

/-- Settles O42: the receiver's cases by framer state, in the state at the pin levels. -/
theorem hostBytesFramed : Obligations.HostBytesFramed := by
  intro s b pins s1 l hunt
  refine ⟨fun off => ⟨?_, ?_⟩, fun on => ?_⟩
  · exact congrArg Host.Outcome.next (if_neg (Bool.eq_false_iff.mp off))
  · exact congrArg Host.Outcome.next (if_neg (Bool.eq_false_iff.mp off))
  refine ⟨?sync, ?stray, ?length, ?badLength, ?payload, ?frame, ?badCheck, ?gap⟩
  case sync => exact fun framer sync => exec_hostByteReceived pins on (receiveByte_sync (s := s1) framer sync)
  case stray => exact fun framer stray => exec_hostByteReceived pins on (receiveByte_stray (s := s1) framer stray)
  case length => exact fun framer least most => exec_hostByteReceived pins on (receiveByte_length (s := s1) framer least most)
  case badLength => exact fun framer bad => exec_hostByteReceived pins on (receiveByte_badLength (s := s1) framer bad)
  case payload => exact fun framer => exec_hostByteReceived pins on (receiveByte_payload (s := s1) framer)
  case frame =>
    exact fun k t body framer payload agrees => exec_hostByteReceived pins on (receiveByte_frame (s := s1) framer payload agrees)
  case badCheck => exact fun framer differs => exec_hostByteReceived pins on (receiveByte_badCheck (s := s1) framer differs)
  case gap =>
    intro running
    have expiry : exec .gapTimerExpiry s = .next (serveLink (gapExpiry s)) := congrArg Host.Outcome.next (if_pos on)
    rw [expiry, gapExpiry_running running]
    rfl

end Sys2Proof.Machine
end

section
/-! SUPPORT. The supplies, RSTn, the oscillator monitor and the tick (R117 to R121, R128, R181). -/

namespace Sys2Proof.Machine

/-! ### The supplies and RSTn (R128, R129, R181) -/

section
variable {s : State}

theorem exec_powerUp {k : StartKind} (pins : Pins) (off : s.vdd = false) (kind : (if s.backupKept then .warm else .cold) = k) :
    exec (.powerUp pins) s = .next (serveLink (start k { withPins pins s with vdd := true, backupKept := true })) := by
  have absent : ¬ (withPins pins s).vdd = true := Bool.eq_false_iff.mp off
  subst kind
  exact congrArg Host.Outcome.next (if_neg absent)

theorem exec_pinStart (pins : Pins) (on : s.vdd = true) :
    exec (.pinStart pins) s = .next (serveLink (start .pin { withPins pins s with rstnAsserted := false })) :=
  congrArg Host.Outcome.next (if_pos on)

theorem exec_pinStart_unpowered (pins : Pins) (off : s.vdd = false) :
    exec (.pinStart pins) s = .next { withPins pins s with rstnAsserted := false } :=
  congrArg Host.Outcome.next (if_neg (Bool.eq_false_iff.mp off))

/-- While VDD is absent an event of the main side does nothing (R128). -/
theorem mainEvent_unpowered (act : State → State) (off : s.vdd = false) : mainEvent act s = s := if_neg (Bool.eq_false_iff.mp off)

theorem mainEvent_powered (act : State → State) (on : s.vdd = true) : mainEvent act s = serveLink (act s) := if_pos on

end

/-- Settles O43: each supply and reset event by the levels it finds, and the events of the main side without VDD. -/
theorem supplyAndResetEvents : Obligations.SupplyAndResetEvents := by
  refine ⟨fun s pins => ⟨?warm, ?cold, ?loss, ?backup, ?supplied, rfl, ?attn, exec_pinStart pins, exec_pinStart_unpowered pins⟩,
    fun s held b between off => ⟨?levels, ?withLrdy, ?lrdy, ?latnHeld, ?latnReleased⟩⟩
  case warm =>
    intro off kept
    rw [exec_powerUp (k := .warm) pins off (by rw [kept]; rfl)]
    exact congrArg (fun b => Host.Outcome.next (serveLink (start .warm { withPins pins s with vdd := true, backupKept := b }))) kept.symm
  case cold => exact fun off lost => exec_powerUp (k := .cold) pins off (by rw [lost]; rfl)
  case loss =>
    exact fun on => ⟨{ mainLost s with vdd := false }, congrArg Host.Outcome.next (if_pos on), rfl, rfl, rfl, rfl, rfl, rfl, rfl⟩
  case backup => exact fun off => congrArg Host.Outcome.next (if_neg (Bool.eq_false_iff.mp off))
  case supplied => exact fun on => congrArg Host.Outcome.next (if_pos on)
  case attn =>
    have off : ({ s with rstnAsserted := true, link := { s.link with sending := none } } : State).linkOn = false := Bool.and_false _
    unfold State.attnAsserted
    rw [off]
    rfl
  case levels =>
    intro c event
    simp only [List.mem_cons, List.not_mem_nil, or_false] at event
    obtain rfl | rfl | rfl := event
    all_goals exact congrArg Host.Outcome.next (mainEvent_unpowered _ off)
  case withLrdy =>
    intro c event
    simp only [List.mem_cons, List.not_mem_nil, or_false] at event
    obtain rfl | rfl | rfl | rfl | rfl | rfl | rfl | rfl | rfl | rfl := event
    all_goals exact congrArg Host.Outcome.next (mainEvent_unpowered (s := Sys2Proof.Machine.withLrdy held s) _ off)
  case lrdy => exact congrArg Host.Outcome.next (mainEvent_unpowered (s := Sys2Proof.Machine.withLrdy false s) _ off)
  case latnHeld => exact congrArg Host.Outcome.next (mainEvent_unpowered (s := { s with latnHeld := true }) _ off)
  case latnReleased => exact congrArg Host.Outcome.next (mainEvent_unpowered (s := { s with latnHeld := false }) _ off)

/-! ### The oscillator monitor (R120, R121, Table 7-3) -/

section
variable {s : State}

theorem calEventStep_powered (act : State → State) (on : s.vdd = true) : calEventStep act s = serveLink (act s) := by
  unfold calEventStep State.calAlive
  rw [on]
  rfl

theorem calEventStep_backup (act : State → State) (off : s.vdd = false) (kept : s.backupKept = true) :
    calEventStep act s = act s := by
  unfold calEventStep State.calAlive
  rw [off, kept]
  rfl

theorem calEventStep_dead (act : State → State) (off : s.vdd = false) (lost : s.backupKept = false) : calEventStep act s = s := by
  unfold calEventStep State.calAlive
  rw [off, lost]
  rfl

theorem oscillatorEdge_lost (monitor : s.cal.monitor = .lost) : oscillatorEdge s = { s with cal := { s.cal with
    monitor := .starting, settleTimer := some 2000, monitorTimer := some 4 } } := by
  unfold oscillatorEdge
  rw [monitor]
  rfl

theorem oscillatorEdge_starting (monitor : s.cal.monitor = .starting) :
    oscillatorEdge s = { s with cal := { s.cal with monitorTimer := some 4 } } := by
  unfold oscillatorEdge
  rw [monitor]
  rfl

theorem oscillatorEdge_stopped (monitor : s.cal.monitor = .stable) (stopped : s.cal.running = false) :
    oscillatorEdge s = { s with cal := { s.cal with monitorTimer := some 4 } } := by
  unfold oscillatorEdge
  rw [monitor, stopped]
  rfl

/-- An edge in RUNNING is a crystal period. -/
theorem oscillatorEdge_running (monitor : s.cal.monitor = .stable) (running : s.cal.running = true) :
    oscillatorEdge s = countPeriod { s with cal := { s.cal with monitorTimer := some 4 } } := by
  unfold oscillatorEdge
  rw [monitor, running]
  rfl

theorem oscLoss_lost (monitor : s.cal.monitor = .lost) : oscLoss s = s := by
  unfold oscLoss
  rw [monitor]

theorem oscLoss_present (monitor : s.cal.monitor ≠ .lost) : oscLoss s = loseOscillator s := by
  unfold oscLoss
  cases state : s.cal.monitor with
  | lost => exact absurd state monitor
  | starting => rfl
  | stable => rfl

theorem settle_starting (monitor : s.cal.monitor = .starting) :
    settle s = { s with cal := { s.cal with monitor := .stable, oscStable := true, settleTimer := none } } := by
  unfold settle
  rw [monitor]

theorem loseOscillator_powered (on : s.vdd = true) :
    loseOscillator s = raise (.calEvent .oscLost s.cal.lose.counters) { s with cal := s.cal.lose } := if_pos on

theorem loseOscillator_backup (off : s.vdd = false) : loseOscillator s = { s with cal := s.cal.lose } :=
  if_neg (Bool.eq_false_iff.mp off)

theorem exec_tick_running (on : s.vdd = true) (running : s.cal.running = true) : exec .tick s = .next (serveLink (tick s)) := by
  refine (congrArg Host.Outcome.next (calEventStep_powered _ on)).trans ?_
  exact congrArg (fun u => Host.Outcome.next (serveLink u)) (if_pos running)

end

/-- An event of the calendar with VDD present is its act, and the link served. -/
theorem calEvent_powered {act : State → State} {s t : State} (on : s.vdd = true) (moves : act s = t) :
    (Host.Outcome.next (calEventStep act s) : Result) = .next (serveLink t) := by
  rw [calEventStep_powered act on, moves]

/-- On the backup supply alone it is its act. -/
theorem calEvent_backup {act : State → State} {s t : State} (off : s.vdd = false) (kept : s.backupKept = true)
    (moves : act s = t) : (Host.Outcome.next (calEventStep act s) : Result) = .next t := by
  rw [calEventStep_backup act off kept, moves]

/-- Settles O44: the monitor's states one by one, on VDD, on the backup supply, and without either. -/
theorem oscillatorMonitor : Obligations.OscillatorMonitor := by
  refine ⟨fun s on => ⟨?lost, ?starting, ?stopped, ?running, ?loss⟩, fun s off kept => ⟨?edge, ?backupLoss⟩, ?dead⟩
  case lost =>
    exact fun monitor => ⟨calEvent_powered on (oscillatorEdge_lost monitor), calEvent_powered on (oscLoss_lost monitor)⟩
  case starting =>
    exact fun monitor => ⟨calEvent_powered on (oscillatorEdge_starting monitor), calEvent_powered on (settle_starting monitor)⟩
  case stopped => exact fun monitor stopped => calEvent_powered on (oscillatorEdge_stopped monitor stopped)
  case running =>
    intro monitor running
    refine ⟨fun below => ?counted, fun last => ?ticks⟩
    case counted =>
      refine calEvent_powered on ((oscillatorEdge_running monitor running).trans (if_neg ?_))
      exact Nat.not_le.mpr below
    case ticks =>
      rw [exec_tick_running (s := { s with cal := { s.cal with monitorTimer := some 4 } }) on running]
      refine calEvent_powered on ((oscillatorEdge_running monitor running).trans (if_pos ?_))
      exact le_of_eq last.symm
  case loss =>
    exact fun monitor => calEvent_powered on ((oscLoss_present monitor).trans (loseOscillator_powered on))
  case edge => exact fun monitor => calEvent_backup off kept (oscillatorEdge_starting monitor)
  case backupLoss =>
    exact fun monitor => calEvent_backup off kept ((oscLoss_present monitor).trans (loseOscillator_backup off))
  case dead =>
    intro s off lost c event
    simp only [List.mem_cons, List.not_mem_nil, or_false] at event
    obtain rfl | rfl | rfl | rfl := event
    all_goals exact congrArg Host.Outcome.next (calEventStep_dead _ off lost)

/-! ### The tick (R117 to R119) -/

/-- The record after a tick. -/
def Calendar.ticked (c : Calendar) : Calendar := { c.advance with divider := 0 }

section
variable {c : Calendar}

/-- What a tick leaves of the record, and the ticks it counts. -/
theorem ticked_spec (ok : c.ok = true) : c.ticked.ok = true ∧ c.ticked.ticks = (c.ticks + 1) % (65536 * 86400 * 256) ∧
    c.ticked.divider = 0 ∧ c.ticked.running = c.running ∧ c.ticked.timeValid = c.timeValid ∧ c.ticked.oscStable = c.oscStable ∧
    c.ticked.monitor = c.monitor ∧ c.ticked.settleTimer = c.settleTimer ∧ c.ticked.monitorTimer = c.monitorTimer := by
  obtain ⟨running, valid, stable, monitor, settle, timer⟩ := advance_flags c
  obtain ⟨ranges, -⟩ := c.ok_iff.mp ok
  exact ⟨ok_of_tick ok, advance_ticks ranges, rfl, running, valid, stable, monitor, settle, timer⟩

/-- A tick is a second boundary where it brings the fraction back to 0. -/
theorem atBoundary_iff : c.atBoundary = true ↔ c.ticked.fraction = 0 := by
  have least : c.atBoundary = true ↔ 255 ≤ c.fraction := decide_eq_true_iff
  show _ ↔ c.advance.fraction = 0
  rw [least]
  unfold Calendar.advance
  split
  · dsimp only
    omega
  · rw [advanceSecond_fraction]
    dsimp only
    omega

/-- A tick wraps the day where it brings every counter back to 0. -/
theorem atWrap_iff (ok : c.ok = true) : c.atWrap = true ↔ c.ticked.ticks = 0 := by
  obtain ⟨⟨fraction, second, minute, hour, day⟩, -⟩ := c.ok_iff.mp ok
  obtain ⟨-, counted, -⟩ := ticked_spec ok
  rw [counted]
  unfold Calendar.atWrap Calendar.atBoundary Calendar.ticks
  rw [Bool.and_eq_true, decide_eq_true_iff, decide_eq_true_iff]
  omega

theorem counters_of_ticks_zero (zero : c.ticks = 0) :
    c.counters = { day := 0, hour := 0, minute := 0, second := 0, fraction := 0 } := by
  have each : c.day = 0 ∧ c.hour = 0 ∧ c.minute = 0 ∧ c.second = 0 ∧ c.fraction = 0 := by
    unfold Calendar.ticks at zero
    omega
  obtain ⟨day, hour, minute, second, fraction⟩ := each
  unfold Calendar.counters
  rw [day, hour, minute, second, fraction]

end

/-- The part after a tick with VDD present: the record, the notice of a wrap, the second boundary. -/
theorem tick_powered {s : State} (ok : s.cal.ok = true) (on : s.vdd = true) :
    let s1 := { s with cal := s.cal.ticked }
    let s2 := if s.cal.ticked.ticks = 0 then
      raise (.calEvent .wrap { day := 0, hour := 0, minute := 0, second := 0, fraction := 0 }) s1 else s1
    tick s = if s.cal.ticked.fraction = 0 then
      { s2 with boundaries := s.boundaries ++ [s.cal.ticked.boundary] } else s2 := by
  intro s1 s2
  have wrapped : (if s.cal.atWrap then raise (.calEvent .wrap s.cal.ticked.counters) s1 else s1) = s2 := by
    by_cases wrap : s.cal.atWrap = true
    · have zero := (atWrap_iff ok).mp wrap
      rw [if_pos wrap, counters_of_ticks_zero zero]
      exact (if_pos zero).symm
    · rw [if_neg wrap]
      exact (if_neg fun zero => wrap ((atWrap_iff ok).mpr zero)).symm
  have boundaries : s2.boundaries = s.boundaries := by
    show (if s.cal.ticked.ticks = 0 then _ else _ : State).boundaries = _
    split <;> rfl
  have turned : tick s = if s.cal.atBoundary then { s2 with boundaries := s2.boundaries ++ [s.cal.ticked.boundary] } else s2 := by
    rw [← wrapped]
    exact if_pos on
  rw [turned, boundaries]
  simp only [atBoundary_iff]

/-- Settles O45: the witness is the record advanced by one tick. -/
theorem tickCounts : Obligations.TickCounts := by
  refine ⟨?powered, ?stopped, ?backup⟩
  case powered =>
    intro s ok on running
    obtain ⟨whole, ticks, divider, run, valid, stable, monitor, settle, timer⟩ := ticked_spec ok
    refine ⟨s.cal.ticked, whole, ticks, divider, run.trans running, valid, stable, monitor, settle, timer, ?_⟩
    rw [exec_tick_running on running]
    exact congrArg (fun u => Host.Outcome.next (serveLink u)) (tick_powered ok on)
  case stopped =>
    exact fun s on stopped => calEvent_powered on (if_neg (Bool.eq_false_iff.mp stopped))
  case backup =>
    intro s ok off kept running
    obtain ⟨whole, ticks, divider, run, valid, stable, monitor, settle, timer⟩ := ticked_spec ok
    refine ⟨s.cal.ticked, whole, ticks, divider, run.trans running, valid, stable, monitor, settle, timer, ?_⟩
    exact calEvent_backup off kept ((if_pos running).trans (if_neg (Bool.eq_false_iff.mp off)))

end Sys2Proof.Machine
end

section
/-! SUPPORT. Station reports, and the Poll Unit's test, turns and reports (R72 to R76, R102 to R112). -/

namespace Sys2Proof.Machine

/-! ### A report at the Station Table (R72 to R76) -/

section
variable {r : Station} {threshold : Nat}

theorem failure_atThreshold (reached : threshold ≤ r.failures) : r.failure threshold = r := if_neg (Nat.not_lt.mpr reached)

theorem failure_below (below : r.failures + 1 < threshold) : r.failure threshold = { r with failures := r.failures + 1 } := by
  have notYet : ¬ (r.failures + 1 = threshold ∧ (r.state = .unknown ∨ r.state = .present)) := fun both => absurd both.1 below.ne
  unfold Station.failure
  rw [if_pos (by omega), if_neg notYet]

theorem failure_reaches (reaches : r.failures + 1 = threshold) : r.failure threshold = { r with
    failures := threshold
    state := if r.state = .unknown ∨ r.state = .present then
        (if r.policy = .staySilent then .silent else .quarantined) else r.state } := by
  have policy : r.policy.failState = if r.policy = .staySilent then .silent else .quarantined := by
    cases r.policy <;> rfl
  unfold Station.failure
  rw [if_pos (by omega), reaches, policy]
  simp only [true_and]

end

/-- Settles O49: the two updates of a report, the notice of a net change, and what the Poll Unit does. -/
theorem stationReportsTaken : Obligations.StationReportsTaken := by
  refine ⟨?updates, ?notice, ?gone⟩
  case updates =>
    intro r reply failed threshold now c
    have contact : r.reported reply failed threshold now = if failed then c.failure threshold else c := by
      cases reply <;> rfl
    rw [contact]
    refine ⟨?kept, ?atThreshold, ?below, ?reaches⟩
    case kept => exact fun success => if_neg (Bool.eq_false_iff.mp success)
    case atThreshold => exact fun failure reached => (if_pos failure).trans (failure_atThreshold reached)
    case below => exact fun failure below => (if_pos failure).trans (failure_below below)
    case reaches => exact fun failure reaches => (if_pos failure).trans (failure_reaches reaches)
  case notice => exact fun s n reply failed => ⟨fun same => if_pos same, fun changed => if_neg changed⟩
  case gone =>
    exact fun s n => ⟨pollStationGone_noCycle n, fun c cycle waiting => pollStationGone_filters cycle waiting,
      fun c cycle inFlight presented => pollStationGone_withdraws cycle inFlight presented⟩

/-! ### The list of a cycle (R103) -/

/-- The rotation counts on from the pointer, past 30 to 1. -/
theorem rotation_eq {pointer : Nat} (small : pointer ≤ 30) :
    rotation pointer = (List.range 30).map (fun k => (pointer + k) % 30 + 1) := by
  have each : ∀ p < 31, rotation p = (List.range 30).map (fun k => (p + k) % 30 + 1) := by decide
  exact each pointer (Nat.lt_succ_of_le small)

theorem station_member (r : Station) :
    r.member = (r.pollable && (r.state == .unknown || r.state == .present || r.state == .silent)) := by
  have inService : r.inService = (r.state == .unknown || r.state == .present || r.state == .silent) := by
    unfold Station.inService
    cases r.state <;> rfl
  unfold Station.member
  rw [inService, Bool.and_comm]

/-! ### The Poll Unit's test (R102, R108, R109) -/

section
variable {s : State}

theorem running_of (notPaused : s.engine.state ≠ .paused) (notFault : s.engine.state ≠ .fault) : s.engine.running = true := by
  unfold LineEngine.running
  rw [Bool.and_eq_true]
  exact ⟨bne_iff_ne.mpr notPaused, bne_iff_ne.mpr notFault⟩

theorem not_running_of (stopped : s.engine.state = .paused ∨ s.engine.state = .fault) : s.engine.running = false := by
  unfold LineEngine.running
  obtain state | state := stopped
  all_goals
    rw [state]
    rfl

theorem pollTest_begins (idle : s.poll.state = .idle) (held : s.latnHeld = true) (running : s.engine.running = true) :
    pollTest s = pollTurn (pollBuild s) := if_pos ⟨idle, held, running⟩

theorem pollTest_busy (busy : s.poll.state ≠ .idle) : pollTest s = s := if_neg fun test => busy test.1

theorem pollTest_released (released : s.latnHeld = false) : pollTest s = s :=
  if_neg fun ⟨_, held, _⟩ => absurd (released.symm.trans held) (by decide)

theorem pollTest_stopped (stopped : s.engine.running = false) : pollTest s = s :=
  if_neg fun ⟨_, _, running⟩ => absurd (stopped.symm.trans running) (by decide)

end

/-- An event of the main side with VDD present is its act, and the link served. -/
theorem mainEvent_next {act : State → State} {s t : State} (on : s.vdd = true) (moves : act s = t) :
    (Host.Outcome.next (mainEvent act s) : Result) = .next (serveLink t) := by
  rw [mainEvent_powered act on, moves]

/-- Settles O58: the test at LATN held and at the holdoff's expiry, the end of IGNORING, and the list of a cycle. -/
theorem pollUnitEvents : Obligations.PollUnitEvents := by
  refine ⟨fun s on => ⟨?begins, ?stays, ?clears, ?released, ?holdoff⟩, fun s => rfl, ?list⟩
  case begins =>
    exact fun idle notPaused notFault => mainEvent_next (s := { s with latnHeld := true }) on
      (pollTest_begins idle rfl (running_of notPaused notFault))
  case stays =>
    rintro (busy | stopped)
    · exact mainEvent_next (s := { s with latnHeld := true }) on (pollTest_busy busy)
    · exact mainEvent_next (s := { s with latnHeld := true }) on (pollTest_stopped (not_running_of stopped))
  case clears =>
    exact fun ignoring => mainEvent_next (s := { s with latnHeld := false }) on
      ((if_pos ignoring).trans (pollTest_released rfl))
  case released =>
    exact fun other => mainEvent_next (s := { s with latnHeld := false }) on (if_neg other)
  case holdoff =>
    intro holdoff idle
    have expires : pollHoldoffExpiry s = pollTest idle := if_pos holdoff
    refine ⟨fun held notPaused notFault => ?_, ?_⟩
    · exact mainEvent_next on (expires.trans (pollTest_begins rfl held (running_of notPaused notFault)))
    · rintro (released | stopped)
      · exact mainEvent_next on (expires.trans (pollTest_released released))
      · exact mainEvent_next on (expires.trans (pollTest_stopped (not_running_of (s := s) stopped)))
  case list =>
    intro s small rotation joins
    have member : (fun n => (s.stationAt n).member) = joins := funext fun n => station_member (s.stationAt n)
    unfold State.cycleList
    rw [rotation_eq small, member]
    simp only [List.filter_filter, Bool.and_comm]
    rfl

/-! ### Turns and reports (R104 to R111) -/

section
variable {s : State} {c : Cycle}

/-- LATN released ends the cycle (R104). -/
theorem pollTurn_released (cycle : s.poll.cycle = some c) (released : s.latnHeld = false) :
    pollTurn s = { s with poll := { s.poll with state := .idle, cycle := none, phantomCount := 0, due := false } } := by
  unfold pollTurn
  rw [cycle, released]
  rfl

/-- The head of the remaining list is presented (R104). -/
theorem pollTurn_presents {n : Nat} {rest : List Nat} (cycle : s.poll.cycle = some c) (held : s.latnHeld = true)
    (head : c.remaining = n :: rest) : pollTurn s = { s with poll := { s.poll with
      cycle := some { c with remaining := rest, inFlight := some n, request := .presented }
      due := s.engine.state == .idle } } := by
  unfold pollTurn
  rw [cycle, held]
  dsimp only
  rw [head]
  rfl

/-- An empty list is the complete end (R107). -/
theorem pollTurn_completes (cycle : s.poll.cycle = some c) (held : s.latnHeld = true) (empty : c.remaining = []) :
    pollTurn s = pollCompleteEnd c.serviceSeen s := by
  unfold pollTurn
  rw [cycle, held]
  dsimp only
  rw [empty]
  rfl

/-- The cycle of the unit as the end of a poll's report finds it. -/
theorem pollReport_ends {n : Nat} {result : AttemptResult} {last : Option Reply} {t : State} (other : result ≠ .lineFault)
    (service : pollService n last s = t) (cycle : t.poll.cycle = some c) :
    pollReport n result last s = pollTurn { t with poll := { t.poll with
      cycle := some { c with inFlight := none, request := .none } } } := by
  unfold pollReport
  dsimp only
  rw [if_neg other, service, cycle]
  rfl

theorem pollReport_faults {n : Nat} {last : Option Reply} {t : State} (service : pollService n last s = t)
    (cycling : t.poll.state = .cycling) : pollReport n .lineFault last s =
      { t with poll := { t.poll with state := .idle, cycle := none, due := false } } := by
  unfold pollReport
  dsimp only
  rw [service]
  exact if_pos cycling

theorem pollService_flagged {n : Nat} {r : Reply} (flag : r.status.msb = true) (cycle : s.poll.cycle = some c) :
    pollService n (some r) s = raise (.service n r.status r.data) { s with poll := { s.poll with
      pointer := n, cycle := some { c with serviceSeen := true } } } := by
  refine (if_pos flag).trans ?_
  dsimp only [raise]
  rw [cycle]
  rfl

theorem pollService_plain {n : Nat} {last : Option Reply} (plain : ∀ r : Reply, last = some r → r.status.msb = false) :
    pollService n last s = s := by
  cases last with
  | none => rfl
  | some r => exact if_neg (Bool.eq_false_iff.mp (plain r rfl))

end

/-- Settles O59: the turn's cases by LATN, the list and service seen; then the report's. -/
theorem cycleTurns : Obligations.CycleTurns := by
  refine ⟨fun s c cycle => ⟨pollTurn_released cycle, fun n rest held head => pollTurn_presents cycle held head, ?service, ?phantom⟩,
    fun s n result last c cycle => ⟨?flagged, ?plain, ?fault, ?faultFlagged⟩⟩
  case service =>
    intro held empty seen
    rw [pollTurn_completes cycle held empty, seen]
    rfl
  case phantom =>
    intro held empty unseen e count
    rw [pollTurn_completes cycle held empty, unseen]
    exact ⟨fun below => if_neg (Nat.not_le.mpr below), fun limit => if_pos limit⟩
  case flagged =>
    rintro r other rfl flag
    exact pollReport_ends other (pollService_flagged flag cycle) rfl
  case plain =>
    exact fun other plain => pollReport_ends other (pollService_plain plain) cycle
  case fault =>
    rintro rfl cycling plain
    exact pollReport_faults (pollService_plain plain) cycling
  case faultFlagged =>
    rintro r rfl cycling rfl flag
    exact pollReport_faults (pollService_flagged flag cycle) cycling

end Sys2Proof.Machine
end

section
/-! SUPPORT. The grant decision (R46 to R49, Table 1-4). -/

namespace Sys2Proof.Machine

/-! ### The loop of decisions (R46) -/

section
variable {s : State}

theorem count_eq_zero {q : DispatchQueue} : q.count = 0 ↔ q.urgent = [] ∧ q.normal = [] := by
  unfold DispatchQueue.count
  rw [Nat.add_eq_zero_iff, List.length_eq_zero_iff, List.length_eq_zero_iff]

theorem count_ne_zero {q : DispatchQueue} : q.count ≠ 0 ↔ q.urgent ≠ [] ∨ q.normal ≠ [] := by
  rw [Ne, count_eq_zero]
  exact not_and_or

theorem count_takeHead {q q' : DispatchQueue} {t : Transaction} (head : q.takeHead = some (t, q')) : q.count = q'.count + 1 := by
  rw [count_eq_length, count_eq_length, takeHead_order head, List.length_cons]

theorem takeHead_empty {q : DispatchQueue} (empty : q.count = 0) : q.takeHead = none := by
  obtain ⟨urgent, normal⟩ := count_eq_zero.mp empty
  unfold DispatchQueue.takeHead
  rw [urgent, normal]

theorem grantOnce_poll_chosen {n : Nat} (idle : s.engine.state = .idle) (chosen : s.pollChosen = some n) :
    grantOnce s = (grantPoll n s, false) := by
  unfold grantOnce
  rw [if_pos idle, chosen]

theorem grantOnce_queue (idle : s.engine.state = .idle) (unchosen : s.pollChosen = none) (waiting : s.queue.count ≠ 0) :
    grantOnce s = grantQueue s := by
  unfold grantOnce
  rw [if_pos idle, unchosen]
  exact if_neg waiting

theorem grantOnce_empty (unchosen : s.pollChosen = none) (empty : s.queue.count = 0) : grantOnce s = (s, false) := by
  unfold grantOnce
  rw [unchosen]
  dsimp only
  rw [if_pos empty, ite_self]

theorem grantOnce_busy (busy : s.engine.state ≠ .idle) : grantOnce s = (s, false) := if_neg busy

theorem grantQueue_completes {t : Transaction} {q : DispatchQueue} {o : TxnOutcome} (head : s.queue.takeHead = some (t, q))
    (check : startCheck t s = some o) : grantQueue s = (completeAtTake t o (takeWork t q s), true) := by
  have after : startCheck t (takeWork t q s) = some o := check
  unfold grantQueue
  rw [head]
  dsimp only
  rw [after]

theorem grantQueue_runs {t : Transaction} {q : DispatchQueue} (head : s.queue.takeHead = some (t, q))
    (check : startCheck t s = none) : grantQueue s = (startWork t (takeWork t q s), false) := by
  have after : startCheck t (takeWork t q s) = none := check
  unfold grantQueue
  rw [head]
  dsimp only
  rw [after]

theorem grantQueue_empty (empty : s.queue.count = 0) :
    grantQueue s = ({ s with engine := { s.engine with lastGrant := .queue } }, true) := by
  unfold grantQueue
  rw [takeHead_empty empty]

/-- A decision after which the engine decides again took the head off the queue. -/
theorem grantOnce_again (again : (grantOnce s).2 = true) : s.queue.count = (grantOnce s).1.queue.count + 1 := by
  have notFalse : ∀ u : State, (u, false).2 ≠ true := fun _ => Bool.false_ne_true
  by_cases idle : s.engine.state = .idle
  · cases chosen : s.pollChosen with
    | some n =>
      rw [grantOnce_poll_chosen idle chosen] at again
      exact absurd again (notFalse _)
    | none =>
      by_cases empty : s.queue.count = 0
      · rw [grantOnce_empty chosen empty] at again
        exact absurd again (notFalse _)
      · rw [grantOnce_queue idle chosen empty] at again ⊢
        cases head : s.queue.takeHead with
        | none =>
          unfold DispatchQueue.takeHead at head
          repeat' split at head
          all_goals cases head
          rename_i urgent _ normal
          exact absurd (count_eq_zero.mpr ⟨urgent, normal⟩) empty
        | some taken =>
          obtain ⟨t, q⟩ := taken
          cases check : startCheck t s with
          | some o =>
            rw [grantQueue_completes head check]
            dsimp only
            rw [completeAtTake_queue]
            exact count_takeHead head
          | none =>
            rw [grantQueue_runs head check] at again
            exact absurd again (notFalse _)
  · rw [grantOnce_busy idle] at again
    exact absurd again (notFalse _)

/-- The engine's coming to a decision is one decision, and after a take that completed at once another coming (R46). -/
theorem decideGrant_eq (s : State) :
    decideGrant s = if (grantOnce s).2 then decideGrant (grantOnce s).1 else (grantOnce s).1 := by
  by_cases again : (grantOnce s).2 = true
  · have count := grantOnce_again again
    unfold decideGrant
    rw [if_pos again, count]
    exact if_pos again
  · rw [if_neg again]
    exact if_neg again

theorem decideGrant_once {u : State} (once : grantOnce s = (u, false)) : decideGrant s = u := by
  rw [decideGrant_eq, once]
  rfl

end

/-! ### What a decision chooses (R47) -/

section
variable {s : State}

theorem presented_iff (p : PollUnit) (n : Nat) : p.presented = some n ↔
    ∃ c, p.cycle = some c ∧ c.inFlight = some n ∧ c.request = .presented ∧ p.due = false := by
  unfold PollUnit.presented
  cases p.cycle with
  | none => simp
  | some c =>
    by_cases asked : c.request = .presented ∧ p.due = false
    · simp [asked]
    · simp only [if_neg asked, Option.some.injEq, exists_eq_left', reduceCtorEq, false_iff]
      exact fun all => asked all.2

theorem pollChosen_of {n : Nat} (presented : s.poll.presented = some n)
    (turn : s.engine.lastGrant ≠ .poll ∨ (s.queue.urgent = [] ∧ s.queue.normal = [])) : s.pollChosen = some n := by
  unfold State.pollChosen
  rw [presented]
  exact if_pos (turn.imp_right count_eq_zero.mpr)

theorem pollChosen_none (absent : s.poll.presented = none) : s.pollChosen = none := by
  unfold State.pollChosen
  rw [absent]

/-- With work queued a poll is not chosen after a poll, or where none is presented. -/
theorem pollChosen_waits (turn : s.poll.presented = none ∨ s.engine.lastGrant = .poll) (waiting : s.queue.count ≠ 0) :
    s.pollChosen = none := by
  obtain absent | last := turn
  · exact pollChosen_none absent
  · unfold State.pollChosen
    split
    · exact if_neg fun either => either.elim (fun other => other last) waiting
    · rfl

/-- The part after a poll is granted (R47, R48). -/
theorem grantPoll_eq {c : Cycle} (n : Nat) (cycle : s.poll.cycle = some c) : grantPoll n s = { s with
    engine := { s.engine with
      state := .active, lastGrant := .poll, work := some (.poll n), station := some n, attempts := 0, lastReply := none
      wait := none
      counters := { s.engine.counters with exchanges := bump s.engine.counters.exchanges }
      exchange := some (.begun .poll (LineFrame.build (.station n) none 0xF0#8 []) true s.lrdyHeld s.engine.config.lineStuckMs) }
    poll := { s.poll with due := false, cycle := some { c with request := .granted } } } := by
  unfold grantPoll
  rw [cycle]
  rfl

/-! ### The take (R9, R10, R49) -/

/-- The head of a queue written out. -/
theorem takeHead_of {q : DispatchQueue} {t : Transaction} (head : s.queue = { q with urgent := t :: q.urgent } ∨
    (s.queue.urgent = [] ∧ s.queue = { q with normal := t :: q.normal })) : s.queue.takeHead = some (t, q) := by
  unfold DispatchQueue.takeHead
  obtain urgent | ⟨none, normal⟩ := head
  · rw [urgent]
  · have noUrgent : q.urgent = [] := by
      rw [normal] at none
      exact none
    rw [normal]
    dsimp only
    rw [noUrgent]
    dsimp only
    rw [← noUrgent]

theorem waiting_of_takeHead {q : DispatchQueue} {t : Transaction} (head : s.queue.takeHead = some (t, q)) : s.queue.count ≠ 0 := by
  rw [count_takeHead head]
  exact Nat.succ_ne_zero _

/-- The completion record of a take that completes at once (R10). -/
def Transaction.atTake (t : Transaction) (o : TxnOutcome) : Completion :=
  { ticket := t.ticket, origin := t.origin, outcome := o, reply := none, attempts := 0, admitted := t.admitted }

/-- The part after such a take, the record aside: the head has left, and the engine is IDLE without work. -/
def State.freed (q : DispatchQueue) (s : State) : State := { s with queue := q, engine := { s.engine with
  state := .idle, lastGrant := .queue, work := none, station := none, attempts := 0, lastReply := none, wait := none,
  exchange := none, closing := none } }

theorem handCompletion_host {c : Completion} (host : c.origin = .host) : handCompletion c s = raise (.txnDone c) s := by
  unfold handCompletion
  rw [host]

theorem handCompletion_schedule {c : Completion} (other : c.origin ≠ .host) :
    handCompletion c s = { s with reports := s.reports ++ [c] } := by
  unfold handCompletion
  split
  · rename_i host
    exact absurd host other
  · rfl

/-- A take that completes at once hands the record on and leaves the engine IDLE. -/
theorem completeAtTake_eq (t : Transaction) (q : DispatchQueue) (o : TxnOutcome) (noPause : s.engine.pausePending = false) :
    completeAtTake t o (takeWork t q s) = if t.origin = .host then raise (.txnDone (t.atTake o)) (s.freed q)
      else { s.freed q with reports := s.reports ++ [t.atTake o] } := by
  have record : (takeWork t q s).engine.completion t o = t.atTake o := rfl
  have steady : ¬ s.engine.pausePending = true := Bool.eq_false_iff.mp noPause
  unfold completeAtTake
  dsimp only
  rw [record]
  by_cases host : t.origin = .host
  · rw [if_pos host, handCompletion_host host]
    exact if_neg steady
  · rw [if_neg host, handCompletion_schedule host]
    exact if_neg steady

/-- The first attempt begins (R49). -/
theorem startWork_eq (t : Transaction) (q : DispatchQueue) : startWork t (takeWork t q s) = { s with
    queue := q
    engine := { s.engine with
      state := .active, lastGrant := .queue, work := some (.transaction t), station := t.spec.dest.station?, attempts := 1
      lastReply := none, wait := none
      counters := { s.engine.counters with exchanges := bump s.engine.counters.exchanges }
      exchange := some (.begun .attempt (LineFrame.build t.spec.dest t.spec.subUnit t.spec.command t.spec.args)
        t.spec.dest.station?.isSome s.lrdyHeld s.engine.config.lineStuckMs) }
    poll := { s.poll with due := false } } := by
  have replies : t.spec.dest.replies = t.spec.dest.station?.isSome := by
    cases t.spec.dest <;> rfl
  unfold startWork beginAttempt
  rw [replies]
  rfl

/-! ### The start-time checks (Table 1-4) -/

variable {t : Transaction} {n g : Nat}

theorem startCheck_undefined (dest : t.spec.dest = .station n) (undefined : (s.stationAt n).state = .undefined) :
    startCheck t s = some .noStation := by
  unfold startCheck Station.defined
  rw [dest]
  dsimp only
  rw [undefined]
  rfl

theorem startCheck_misfit (dest : t.spec.dest = .station n) (misfit : (s.stationAt n).fits t.spec.subUnit = false) :
    startCheck t s = some .noStation := by
  unfold startCheck
  rw [dest]
  dsimp only
  rw [misfit]
  exact ite_self _

theorem startCheck_fits (dest : t.spec.dest = .station n) (defined : (s.stationAt n).state ≠ .undefined)
    (fits : (s.stationAt n).fits t.spec.subUnit = true) :
    startCheck t s = if (s.stationAt n).state == .quarantined then some .quarantined else none := by
  have known : (s.stationAt n).defined = true := bne_iff_ne.mpr defined
  unfold startCheck
  rw [dest]
  dsimp only
  rw [known, fits]
  rfl

theorem inService_iff (r : Station) : r.inService = true ↔ r.state ≠ .undefined ∧ r.state ≠ .quarantined := by
  unfold Station.inService
  rw [Bool.and_eq_true, bne_iff_ne, bne_iff_ne]

theorem startCheck_noMember (dest : t.spec.dest = .group g)
    (none : ∀ r ∈ s.stations, r.inService = true → r.groups.getLsbD g = false) : startCheck t s = some .noStation := by
  have noMember : s.stations.any (fun r => r.inService && r.groups.getLsbD g) = false := by
    rw [List.any_eq_false]
    intro r mem
    rw [Bool.and_eq_true]
    rintro ⟨serves, joins⟩
    exact absurd ((none r mem serves).symm.trans joins) (by decide)
  unfold startCheck
  rw [dest]
  dsimp only
  rw [noMember]
  rfl

theorem startCheck_member {r : Station} (dest : t.spec.dest = .group g) (mem : r ∈ s.stations) (serves : r.inService = true)
    (joins : r.groups.getLsbD g = true) : startCheck t s = none := by
  have member : s.stations.any (fun r => r.inService && r.groups.getLsbD g) = true :=
    List.any_eq_true.mpr ⟨r, mem, by rw [serves, joins]; rfl⟩
  unfold startCheck
  rw [dest]
  dsimp only
  rw [member]
  rfl

end

/-- Settles O57: the poll's grant, and the head's by the start-time checks. -/
theorem grantAlternates : Obligations.GrantAlternates := by
  unfold Obligations.GrantAlternates
  intro began polled
  have grants : ∀ (s : State) (c : Cycle) (n : Nat), s.engine.state = .idle → s.poll.presented = some n → s.poll.cycle = some c →
      (s.engine.lastGrant ≠ .poll ∨ (s.queue.urgent = [] ∧ s.queue.normal = [])) → grantOnce s = (polled s c n, false) := by
    intro s c n idle presented cycle turn
    rw [grantOnce_poll_chosen idle (pollChosen_of presented turn), grantPoll_eq n cycle]
    rfl
  refine ⟨decideGrant_eq, fun s busy => grantOnce_busy busy, presented_iff, ?none, grants, ?head, ?event⟩
  case none =>
    exact fun s _ absent urgent normal => grantOnce_empty (pollChosen_none absent) (count_eq_zero.mpr ⟨urgent, normal⟩)
  case head =>
    intro s t q idle turn queue inService record freed completes runs
    have head := takeHead_of queue
    have waiting := waiting_of_takeHead head
    have takes : grantOnce s = grantQueue s := grantOnce_queue idle (pollChosen_waits turn waiting) waiting
    have completed : ∀ o, startCheck t s = some o → completes o := by
      intro o check noPause
      rw [takes, grantQueue_completes head check, completeAtTake_eq t q o noPause]
      rfl
    have started : startCheck t s = none → runs t.spec.dest.station? := by
      intro check
      show grantOnce s = _
      rw [takes, grantQueue_runs head check, startWork_eq]
      rfl
    refine ⟨?station, ?group, ?all⟩
    case station =>
      intro n dest r
      refine ⟨fun undefined => completed _ (startCheck_undefined dest undefined),
        fun _ misfit => completed _ (startCheck_misfit dest misfit), fun quarantined fits => completed _ ?_, fun serves fits => ?_⟩
      · have defined : r.state ≠ .undefined := by
          rw [quarantined]
          decide
        rw [startCheck_fits dest defined fits, if_pos (beq_iff_eq.mpr quarantined)]
      · have check : startCheck t s = none := by
          rw [startCheck_fits dest serves.1 fits]
          exact if_neg fun quarantined => serves.2 (beq_iff_eq.mp quarantined)
        have station : t.spec.dest.station? = some n := by
          rw [dest]
          rfl
        exact station ▸ started check
    case group =>
      intro g dest
      have station : t.spec.dest.station? = none := by
        rw [dest]
        rfl
      refine ⟨fun none => completed _ (startCheck_noMember dest fun r mem serves => none r mem ((inService_iff r).mp serves)), ?_⟩
      exact fun r mem serves joins => station ▸ started (startCheck_member dest mem ((inService_iff r).mpr serves) joins)
    case all =>
      intro dest
      have station : t.spec.dest.station? = none := by
        rw [dest]
        rfl
      refine station ▸ started ?_
      unfold startCheck
      rw [dest]
  case event =>
    intro s held on
    have presents : s.poll.due = true → exec (.pollRequestPresented held) s =
        .next (serveLink (decideGrant { withLrdy held s with poll := { s.poll with due := false } })) :=
      fun due => mainEvent_next (s := withLrdy held s) on (if_pos due)
    refine ⟨fun notDue => mainEvent_next (s := withLrdy held s) on (if_neg (Bool.eq_false_iff.mp notDue)), presents, ?_⟩
    intro c n idle due cycle inFlight asked turn
    have presented : ({ s.poll with due := false } : PollUnit).presented = some n :=
      (presented_iff _ n).mpr ⟨c, cycle, inFlight, asked, rfl⟩
    rw [presents due, decideGrant_once (grants { withLrdy held s with poll := { s.poll with due := false } } c n idle presented cycle turn)]
    rfl

end Sys2Proof.Machine
end

section
/-! SUPPORT. The evaluation and what comes between two of its claims (R134, R135, R139). -/

namespace Sys2Proof.Machine

/-! ### Matching and the scan (R134, R135) -/

theorem fires_iff (e : Entry) (ev : SecondBoundary) : e.fires ev = true ↔ e.state = .armed ∧ e.defn.isMatch ev = true := by
  unfold Entry.fires
  rw [Bool.and_eq_true, beq_iff_eq]

theorem agrees_iff (field : Option Nat) (value : Nat) : agrees field value = true ↔ ∀ f, field = some f → f = value := by
  cases field with
  | none => exact iff_of_true rfl (by rintro f ⟨⟩)
  | some f => simp [agrees]

theorem dayAgrees_iff (field : Option DayPattern) (day : Nat) :
    dayAgrees field day = true ↔ ∀ p, field = some p → day % p.length = p.phase := by
  cases field with
  | none => exact iff_of_true rfl (by rintro f ⟨⟩)
  | some p => simp [dayAgrees]

theorem isMatch_iff (d : EntryDef) (ev : SecondBoundary) : d.isMatch ev = true ↔
    d.second = ev.second ∧ (∀ m, d.minute = some m → m = ev.minute) ∧ (∀ h, d.hour = some h → h = ev.hour) ∧
    (∀ p, d.day = some p → ev.day % p.length = p.phase) := by
  unfold EntryDef.isMatch
  rw [Bool.and_eq_true, Bool.and_eq_true, Bool.and_eq_true, beq_iff_eq, agrees_iff, agrees_iff, dayAgrees_iff, and_assoc, and_assoc]

theorem scanEntries_cons (ev : SecondBoundary) (between : List Between) (i : Nat) (later : List Nat) (s : State) :
    scanEntries ev between (i :: later) s = scanEntries ev between later (takeBetween between i
      (if (s.entryAt i).state = .armed ∧ (s.entryAt i).defn.isMatch ev = true then fireEntry ev i s else s)) := by
  conv_lhs => unfold scanEntries
  simp only [fires_iff]

/-- With nothing between its claims the scan fires entry by entry. -/
theorem scanEntries_alone (ev : SecondBoundary) (l : List Nat) (s : State) : scanEntries ev [] l s = l.foldl
    (fun t i => if (t.entryAt i).state = .armed ∧ (t.entryAt i).defn.isMatch ev = true then fireEntry ev i t else t) s := by
  induction l generalizing s with
  | nil => rfl
  | cons i later ih =>
    rw [scanEntries_cons, takeBetween_nil, List.foldl_cons]
    exact ih _

/-- The oldest second boundary is evaluated, and the engine comes to its decision. -/
theorem exec_scheduleEvaluation {s : State} {ev : SecondBoundary} {rest : List SecondBoundary} (held : Bool) (between : List Between)
    (on : s.vdd = true) (raised : s.boundaries = ev :: rest) : exec (.scheduleEvaluation held between) s = .next (serveLink (decideGrant
      (scanEntries ev between (List.range 40) { withLrdy held s with boundaries := rest }))) := by
  refine mainEvent_next (s := withLrdy held s) on ?_
  unfold evaluateNext
  rw [withLrdy_boundaries, raised]
  rfl

theorem exec_scheduleEvaluation_none {s : State} (held : Bool) (between : List Between) (on : s.vdd = true) (none : s.boundaries = []) :
    exec (.scheduleEvaluation held between) s = .next (serveLink (withLrdy held s)) := by
  refine mainEvent_next (s := withLrdy held s) on ?_
  unfold evaluateNext
  rw [withLrdy_boundaries, none]

/-! ### An event between two claims (R135) -/

section
variable {e : BetweenEvent} {s t : State}

/-- An event between two claims is the command of its name. -/
theorem execBetween_command {c : Instr} (command : betweenCommand e = some c) : execBetween e s = exec c s := by
  cases e <;> cases command
  case request k tag body pins => exact (exec_requestCommand k tag body pins s).symm
  all_goals rfl

theorem afterBetween_next (run : execBetween e s = .next t) :
    afterBetween e s = if e.besideEvaluation && leavesEvaluationWhole s t then t else s := by
  unfold afterBetween
  rw [run]

theorem afterBetween_taken (run : execBetween e s = .next t) (beside : e.besideEvaluation = true)
    (whole : leavesEvaluationWhole s t = true) : afterBetween e s = t := by
  rw [afterBetween_next run, beside, whole]
  rfl

theorem afterBetween_left (run : execBetween e s = .next t)
    (outside : e.besideEvaluation = false ∨ leavesEvaluationWhole s t = false) : afterBetween e s = s := by
  have not : (e.besideEvaluation && leavesEvaluationWhole s t) = false := Bool.and_eq_false_iff.mpr outside
  rw [afterBetween_next run, not]
  rfl

end

/-! ### What leaves an evaluation whole (R135) -/

/-- The kind bytes of the requests on the schedule table and of RESET-PART. -/
def tableKinds : List Byte := [0x04#8, 0x20#8, 0x21#8, 0x22#8, 0x23#8, 0x24#8, 0x25#8]

theorem beside_iff (k : RequestKind) : k.besideEvaluation = true ↔ k.code ∉ tableKinds := by
  cases k <;> decide

theorem tableRequest_iff (kind : Byte) :
    (!(RequestKind.ofCode kind).all RequestKind.besideEvaluation) = true ↔ kind ∈ tableKinds := by
  rw [Bool.not_eq_true']
  cases found : RequestKind.ofCode kind with
  | some k =>
    have code : k.code = kind := by
      unfold RequestKind.ofCode at found
      exact beq_iff_eq.mp (List.find?_some (p := fun r : RequestKind => r.code == kind) found)
    rw [Option.all_some, ← Bool.not_eq_true, beside_iff, code, not_not]
  | none =>
    refine iff_of_false (by decide) fun mem => ?_
    have known : ∀ b ∈ tableKinds, RequestKind.ofCode b ≠ none := by decide
    exact known kind mem found

theorem tableRequests_eq (u : State) : u.tableRequests = u.link.intake.filter (fun f => f.kind ∈ tableKinds) := by
  refine List.filter_congr fun f _ => ?_
  rw [Bool.eq_iff_iff, tableRequest_iff, decide_eq_true_iff]

/-- The SCHEDULE transaction at the engine, counted. -/
theorem ofSchedule_count (e : LineEngine) : (if e.ofSchedule then 1 else 0) = match e.work with
    | some (.transaction x) => if x.origin != .host then 1 else 0
    | some (.poll _) => 0
    | none => 0 := by
  unfold LineEngine.ofSchedule
  cases e.work with
  | none => rfl
  | some w => cases w <;> rfl

theorem leavesEvaluationWhole_iff (s t : State) :
    leavesEvaluationWhole s t = true ↔ t.awaited = s.awaited ∧ t.tableRequests = s.tableRequests := by
  unfold leavesEvaluationWhole
  rw [Bool.and_eq_true, beq_iff_eq, beq_iff_eq]

/-! ### A BUS-CANCEL ahead of a decided take (R9, R47) -/

section
variable {s t : State}

theorem queueChosen_of (turn : s.poll.presented = none ∨ s.engine.lastGrant = .poll)
    (waiting : s.queue.urgent ≠ [] ∨ s.queue.normal ≠ []) : s.queueChosen = true := by
  have count := count_ne_zero.mpr waiting
  unfold State.queueChosen
  rw [pollChosen_waits turn count, Bool.and_eq_true]
  exact ⟨rfl, bne_iff_ne.mpr count⟩

/-- No decision for the queue stands: the engine is not IDLE, a poll is chosen, or nothing is queued. -/
theorem noDecision_of (other : s.engine.state ≠ .idle ∨ (∃ n, s.poll.presented = some n ∧ s.engine.lastGrant ≠ .poll) ∨
    (s.queue.urgent = [] ∧ s.queue.normal = [])) : ¬ (s.engine.state = .idle ∧ s.queueChosen = true) := by
  rintro ⟨idle, chosen⟩
  unfold State.queueChosen at chosen
  rw [Bool.and_eq_true, bne_iff_ne] at chosen
  obtain ⟨noPoll, waiting⟩ := chosen
  obtain busy | ⟨n, presented, last⟩ | empty := other
  · exact busy idle
  · rw [pollChosen_of presented (.inl last)] at noPoll
    cases noPoll
  · exact waiting (count_eq_zero.mpr empty)

/-- A decided take that finds the queue emptied sets the last grant, and the engine decides again. -/
theorem takeDecided_emptied (idle : t.engine.state = .idle) (urgent : t.queue.urgent = []) (normal : t.queue.normal = []) :
    takeDecided t = decideGrant { t with engine := { t.engine with lastGrant := .queue } } := by
  unfold takeDecided
  rw [if_pos idle, grantQueue_empty (count_eq_zero.mpr ⟨urgent, normal⟩)]
  rfl

/-- A decided take of a queue the engine would choose again is the engine's decision. -/
theorem takeDecided_standing (idle : t.engine.state = .idle) (waiting : t.queue.urgent ≠ [] ∨ t.queue.normal ≠ [])
    (turn : t.poll.presented = none ∨ t.engine.lastGrant = .poll) : takeDecided t = decideGrant t := by
  have count := count_ne_zero.mpr waiting
  unfold takeDecided
  rw [if_pos idle, decideGrant_eq t, grantOnce_queue idle (pollChosen_waits turn count) count]

end

/-- Settles O46: the scan and its events, what leaves it whole, and the take with a BUS-CANCEL ahead of it. -/
theorem evaluationScansInOrder : Obligations.EvaluationScansInOrder := by
  refine ⟨?alone, isMatch_iff, fun s held between on none => exec_scheduleEvaluation_none held between on none,
    fun s held between ev rest on raised => exec_scheduleEvaluation held between on raised,
    fun ev between i later s => ⟨rfl, scanEntries_cons ev between i later s⟩,
    fun b rest i s => ⟨rfl, takeBetween_cons b rest i s⟩, ?event, ?whole, ?take, ?cancel⟩
  case alone =>
    intro s held ev rest on raised
    rw [exec_scheduleEvaluation held [] on raised, scanEntries_alone]
  case event =>
    intro e c s t command next
    have run : execBetween e s = .next t := (execBetween_command command).trans next
    exact ⟨fun beside whole => afterBetween_taken run beside whole, fun outside => afterBetween_left run outside⟩
  case whole =>
    intro s t forTable waiting ofSchedule atEngine awaited
    have count : ∀ u : State, u.awaited = awaited u := by
      intro u
      unfold State.awaited
      rw [List.countP_eq_length_filter, ofSchedule_count]
      rfl
    refine ⟨?_, fun k tag body pins => beside_iff k⟩
    rw [leavesEvaluationWhole_iff, count, count, tableRequests_eq, tableRequests_eq]
    rfl
  case take =>
    intro s held on t whole
    exact afterBetween_taken (mainEvent_next (s := withLrdy held s) on rfl) rfl whole
  case cancel =>
    intro s t tag body held next decided
    have cancelled : hostRequest .busCancel tag body (withLrdy held s) = t := Host.Outcome.next.inj next
    have settles : ∀ u, cancelDecided tag body (withLrdy held s) = u → decided u :=
      fun u leads whole => afterBetween_taken (congrArg Host.Outcome.next leads) rfl whole
    refine ⟨fun other => settles t ?_, fun idle turn waiting on idleAfter => ?_⟩
    · exact (if_neg (noDecision_of (s := withLrdy held s) other)).trans cancelled
    · have takes : cancelDecided tag body (withLrdy held s) = serveLink (takeDecided t) := by
        refine (if_pos ⟨idle, queueChosen_of (s := withLrdy held s) turn waiting⟩).trans ?_
        rw [cancelled]
        exact mainEvent_powered _ on
      refine ⟨fun urgent normal => settles _ ?_, fun waitsStill turnStill => settles _ ?_⟩
      · rw [takes, takeDecided_emptied idleAfter urgent normal]
      · rw [takes, takeDecided_standing idleAfter waitsStill turnStill]

end Sys2Proof.Machine
end

section
/-! SUPPORT. The events of an exchange: the line's ready waits, the bytes sent, the bytes received (R20, R26 to R33). -/

namespace Sys2Proof.Machine

/-! ### An event of the exchange in progress -/

section
variable {s t : State} {x : Exchange} {act : Exchange → State → State}

theorem onExchange_some (current : s.engine.exchange = some x) : onExchange act s = act x s := by
  unfold onExchange
  rw [current]

theorem onExchange_none (free : s.engine.exchange = none) : onExchange act s = s := by
  unfold onExchange
  rw [free]

/-- With VDD present the event acts on the exchange, and the link is served. -/
theorem exchangeEvent_next (on : s.vdd = true) (current : s.engine.exchange = some x) (moves : act x s = t) :
    (Host.Outcome.next (mainEvent (onExchange act) s) : Result) = .next (serveLink t) :=
  mainEvent_next on ((onExchange_some current).trans moves)

theorem exchangeEvent_free (on : s.vdd = true) (free : s.engine.exchange = none) :
    (Host.Outcome.next (mainEvent (onExchange act) s) : Result) = .next (serveLink s) :=
  mainEvent_next on (onExchange_none free)

end

/-! ### LRDY and the ready timer (R26 to R31) -/

section
variable {s : State} {x : Exchange}

theorem released_lineCheck (phase : x.phase = .lineCheck) : x.released = { x with phase := .send, lineStuck := none } := by
  unfold Exchange.released
  rw [phase]

theorem released_readyWait (phase : x.phase = .send ∨ x.phase = .receive) : x.released = { x with ready := none } := by
  unfold Exchange.released
  obtain send | receive := phase
  · rw [send]
  · rw [receive]

theorem released_turn (phase : x.phase = .turn) (held : x.turnHold = none) :
    x.released = { x with phase := .receive, replyWindow := none } := by
  unfold Exchange.released
  rw [phase, held]
  rfl

theorem exec_lrdyReleased {y : Exchange} (on : s.vdd = true) (current : s.engine.exchange = some x) (released : x.released = y) :
    exec .lrdyReleased s = .next (serveLink (setExchange y (withLrdy false s))) :=
  exchangeEvent_next (s := withLrdy false s) on current (congrArg (fun z => setExchange z _) released)

theorem readyTimerExpiry_send (running : x.ready ≠ none) (phase : x.phase = .send) :
    readyTimerExpiry x s = endExchange x (.failed .noReady) s := by
  unfold readyTimerExpiry
  rw [if_pos (Option.isSome_iff_ne_none.mpr running), phase]

theorem readyTimerExpiry_receive (running : x.ready ≠ none) (phase : x.phase = .receive) :
    readyTimerExpiry x s = endExchange x (.failed .noReply) s := by
  unfold readyTimerExpiry
  rw [if_pos (Option.isSome_iff_ne_none.mpr running), phase]

end

/-- Settles O50: LRDY and the timers by the phase of the exchange, and without one. -/
theorem lineReadyEvents : Obligations.LineReadyEvents := by
  refine ⟨fun s held x on current => ⟨?lineCheck, ?send, ?receive, ?turn⟩, ?free⟩
  case lineCheck =>
    exact fun phase => ⟨exec_lrdyReleased on current (released_lineCheck phase), exchangeEvent_next on current (if_pos phase)⟩
  case send =>
    exact fun phase => ⟨exec_lrdyReleased on current (released_readyWait (.inl phase)),
      fun running => exchangeEvent_next (s := withLrdy held s) on current (readyTimerExpiry_send running phase)⟩
  case receive =>
    exact fun phase => ⟨exec_lrdyReleased on current (released_readyWait (.inr phase)),
      fun running => exchangeEvent_next (s := withLrdy held s) on current (readyTimerExpiry_receive running phase)⟩
  case turn => exact fun phase noHold => exec_lrdyReleased on current (released_turn phase noHold)
  case free =>
    intro s held b on free
    have each : ∀ act : Exchange → State → State,
        (Host.Outcome.next (mainEvent (onExchange act) (withLrdy held s)) : Result) = .next (serveLink (withLrdy held s)) :=
      fun act => exchangeEvent_free (s := withLrdy held s) on free
    exact ⟨exchangeEvent_free (s := withLrdy false s) on free, exchangeEvent_free on free, each _, each _, each _, each _, each _⟩

/-! ### The frame on the line (R20, R27, R29) -/

section
variable {x : Exchange}

theorem sentSignals_lineCheck (phase : x.phase = .lineCheck) : x.sentSignals = [] := by
  unfold Exchange.sentSignals
  rw [phase]

/-- From SEND on: the start mark and the bytes clocked. -/
theorem sentSignals_begun (phase : x.phase ≠ .lineCheck) :
    x.sentSignals = .startMark :: (x.frame.bytes.take x.bytesSent).flatMap byteSignals := by
  unfold Exchange.sentSignals
  split
  · rename_i check
    exact absurd check phase
  all_goals rfl

/-- A byte clocked puts its eight bits on LDT. -/
theorem sentSignals_byte {b : Byte} (phase : x.phase = .send) (next : x.frame.bytes[x.bytesSent]? = some b) :
    ({ x with bytesSent := x.bytesSent + 1 } : Exchange).sentSignals = x.sentSignals ++ byteSignals b := by
  have begun : x.phase ≠ .lineCheck := by
    rw [phase]
    decide
  rw [sentSignals_begun begun, sentSignals_begun (x := { x with bytesSent := x.bytesSent + 1 }) begun, List.take_add_one, next]
  simp

end

/-! ### A byte sent, and TURN (R29, R30) -/

section
variable {s : State} {x : Exchange}

theorem frameByteSent_more (phase : x.phase = .send) (ready : x.ready = none) (more : x.bytesSent + 1 < x.frame.bytes.length) :
    frameByteSent x s = setExchange { x with
      bytesSent := x.bytesSent + 1
      ready := if s.lrdyHeld then some s.engine.config.readyTimeoutMs else none } s :=
  (if_pos ⟨phase, ready⟩).trans (if_pos more)

theorem frameByteSent_turns (phase : x.phase = .send) (ready : x.ready = none) (last : x.bytesSent + 1 = x.frame.bytes.length)
    (reply : x.replyExpected = true) :
    frameByteSent x s = setExchange (({ x with bytesSent := x.frame.bytes.length } : Exchange).turn s.engine.config) s := by
  refine (if_pos ⟨phase, ready⟩).trans ?_
  rw [last]
  exact (if_neg (lt_irrefl _)).trans (if_pos reply)

theorem frameByteSent_ends (phase : x.phase = .send) (ready : x.ready = none) (last : x.bytesSent + 1 = x.frame.bytes.length)
    (noReply : x.replyExpected = false) :
    frameByteSent x s = endExchange { x with bytesSent := x.frame.bytes.length } .sent s := by
  refine (if_pos ⟨phase, ready⟩).trans ?_
  rw [last]
  exact (if_neg (lt_irrefl _)).trans (if_neg (Bool.eq_false_iff.mp noReply))

theorem turnHoldExpiry_ends (phase : x.phase = .turn) (holding : x.turnHold ≠ none) (released : s.lrdyHeld = false) :
    turnHoldExpiry x s = endExchange x (.failed .noReply) s :=
  (if_pos ⟨phase, Option.isSome_iff_ne_none.mpr holding⟩).trans (if_neg (Bool.eq_false_iff.mp released))

theorem turnHoldExpiry_waits (phase : x.phase = .turn) (holding : x.turnHold ≠ none) (held : s.lrdyHeld = true) :
    turnHoldExpiry x s = setExchange { x with turnHold := none } s :=
  (if_pos ⟨phase, Option.isSome_iff_ne_none.mpr holding⟩).trans (if_pos held)

end

/-- Settles O51: the signals of the bytes clocked, and each event of SEND and TURN. -/
theorem frameBytesAndTurn : Obligations.FrameBytesAndTurn := by
  refine ⟨fun x => ⟨sentSignals_lineCheck, ?mark, fun b phase next => sentSignals_byte phase next, ?whole⟩,
    fun s held x on current => ⟨?send, ?turn⟩⟩
  case mark =>
    intro phase none
    have begun : x.phase ≠ .lineCheck := by
      rw [phase]
      decide
    rw [sentSignals_begun begun, none]
    rfl
  case whole =>
    intro begun all
    rw [sentSignals_begun begun, all, List.take_length]
    rfl
  case send =>
    intro phase ready
    refine ⟨fun more => ?_, fun last reply => ?_, fun last noReply => ?_⟩
    · exact exchangeEvent_next (s := withLrdy held s) on current (frameByteSent_more phase ready more)
    · refine (exchangeEvent_next (s := withLrdy held s) on current (frameByteSent_turns phase ready last reply)).trans ?_
      unfold Exchange.turn LineRate.byteTimeUs
      rfl
    · exact exchangeEvent_next (s := withLrdy held s) on current (frameByteSent_ends phase ready last noReply)
  case turn =>
    intro phase
    refine ⟨fun holding released => ?_, fun holding low => ?_, ?_⟩
    · exact exchangeEvent_next (s := withLrdy held s) on current (turnHoldExpiry_ends phase holding released)
    · exact exchangeEvent_next (s := withLrdy held s) on current (turnHoldExpiry_waits phase holding low)
    · exact exchangeEvent_next (s := withLrdy held s) on current (if_pos phase)

/-! ### The bytes of a reply (R31 to R33) -/

theorem lowNibble_toNat (b : Byte) : (b &&& 0x0F#8).toNat = b.toNat % 16 := by
  rw [BitVec.toNat_and]
  exact Nat.and_two_pow_sub_one_eq_mod b.toNat 4

theorem highNibble_toNat (b : Byte) : (b >>> 4).toNat = b.toNat / 16 := by
  rw [BitVec.toNat_ushiftRight, Nat.shiftRight_eq_div_pow]

/-- A head that names no class or too many data bytes. -/
theorem replyHeadOf_bad {b : Byte} (bad : b.toNat / 16 < 1 ∨ 4 < b.toNat / 16 ∨ 8 < b.toNat % 16) : replyHeadOf b = none := by
  unfold replyHeadOf
  dsimp only
  rw [lowNibble_toNat, highNibble_toNat]
  split
  · rfl
  · split
    case h_5 => rfl
    all_goals omega

/-- A head that names its class and a count of data bytes. -/
theorem replyHeadOf_good {b : Byte} (least : 1 ≤ b.toNat / 16) (most : b.toNat / 16 ≤ 4) (few : b.toNat % 16 ≤ 8) :
    ∃ cls : ReplyClass, cls.code.toNat = b.toNat / 16 ∧ replyHeadOf b = some (cls, b.toNat % 16) := by
  have named : b.toNat / 16 = 1 ∨ b.toNat / 16 = 2 ∨ b.toNat / 16 = 3 ∨ b.toNat / 16 = 4 := by omega
  unfold replyHeadOf
  dsimp only
  rw [lowNibble_toNat, highNibble_toNat, if_neg (Nat.not_lt.mpr few)]
  obtain code | code | code | code := named
  all_goals rw [code]
  · exact ⟨.normal, rfl, rfl⟩
  · exact ⟨.query, rfl, rfl⟩
  · exact ⟨.nack, rfl, rfl⟩
  · exact ⟨.busy, rfl, rfl⟩

theorem replyClass_of_code {c d : ReplyClass} (same : c.code.toNat = d.code.toNat) : c = d := by
  revert same
  cases c <;> cases d <;> decide

section
variable {s : State} {x : Exchange} {b : Byte}

theorem replyByteReceived_bad (phase : x.phase = .receive) (ready : x.ready = none)
    (bad : replyHeadOf (x.replySoFar.headD b) = none) : replyByteReceived b x s = endExchange x (.failed .checkError) s := by
  refine (if_pos ⟨phase, ready⟩).trans ?_
  rw [bad]

theorem replyByteReceived_more {cls : ReplyClass} {count : Nat} (phase : x.phase = .receive) (ready : x.ready = none)
    (head : replyHeadOf (x.replySoFar.headD b) = some (cls, count)) (more : x.replySoFar.length < count + 2) :
    replyByteReceived b x s = setExchange { x with
      replySoFar := x.replySoFar ++ [b]
      ready := if s.lrdyHeld then some s.engine.config.readyTimeoutMs else none } s := by
  refine (if_pos ⟨phase, ready⟩).trans ?_
  rw [head]
  exact if_pos more

theorem replyByteReceived_closes {cls : ReplyClass} {count : Nat} (phase : x.phase = .receive) (ready : x.ready = none)
    (head : replyHeadOf (x.replySoFar.headD b) = some (cls, count)) (all : count + 2 ≤ x.replySoFar.length) :
    replyByteReceived b x s = endExchange x (closeResult cls x.replySoFar b) s := by
  refine (if_pos ⟨phase, ready⟩).trans ?_
  rw [head]
  exact if_neg (Nat.not_lt.mpr all)

end

/-- Settles O52: the head byte, a byte before the check, and the check. -/
theorem replyBytesReceived : Obligations.ReplyBytesReceived := by
  intro s held x b on current phase ready s1 next
  have event : ∀ {t : State}, replyByteReceived b x s1 = t → exec (.replyByteReceived b held) s = .next (serveLink t) :=
    fun moves => exchangeEvent_next (s := withLrdy held s) on current moves
  refine ⟨fun none bad => ?_, fun none least most few => ?_, fun head rest soFar least most few => ⟨fun more => ?_, ?close⟩⟩
  · refine event (replyByteReceived_bad phase ready ?_)
    rw [none]
    exact replyHeadOf_bad bad
  · obtain ⟨cls, -, named⟩ := replyHeadOf_good least most few
    refine event (replyByteReceived_more (cls := cls) (count := b.toNat % 16) phase ready ?_ ?_)
    · rw [none]
      exact named
    · rw [none]
      exact Nat.succ_pos _
  · obtain ⟨cls, -, named⟩ := replyHeadOf_good least most few
    refine event (replyByteReceived_more (cls := cls) (count := head.toNat % 16) phase ready ?_ ?_)
    · rw [soFar]
      exact named
    · rw [soFar, List.length_cons]
      omega
  case close =>
    intro status data cls bytes count code
    obtain ⟨named, namedCode, isNamed⟩ := replyHeadOf_good least most few
    obtain rfl : named = cls := replyClass_of_code (namedCode.trans code.symm)
    have closes : replyByteReceived b x s1 = endExchange x (closeResult named x.replySoFar b) s1 := by
      refine replyByteReceived_closes (count := head.toNat % 16) phase ready ?_ ?_
      · rw [soFar]
        exact isNamed
      · rw [soFar, bytes, List.length_cons, List.length_cons, count]
    have judged : closeResult named x.replySoFar b = if (head :: status :: data).foldl (· ^^^ ·) 0x5A#8 = b then
        .reply { cls := named, status := status, data := data } else .failed .checkError := by
      rw [soFar, bytes]
      rfl
    refine ⟨fun agrees => event (closes.trans ?_), fun differs => event (closes.trans ?_)⟩
    · rw [judged, if_pos agrees]
    · rw [judged, if_neg differs]

end Sys2Proof.Machine
end

section
/-! SUPPORT. Attempt results, verdicts, referrals and waits (R34, R48 to R54, R85 to R94, Table 3-4, Table 3-7). -/

namespace Sys2Proof.Machine

/-! ### The counters of a result, and who acts on it (R34, Table 3-7) -/

section
variable {s : State} {x : Exchange} {result : AttemptResult} {c : LineCounters}

theorem countResult_nack {k : ExchangeKind} {r : Reply} (nack : r.cls = .nack) (counted : k = .attempt ∨ k = .confirm) :
    countResult k (.reply r) c = { c with nacks := bump c.nacks } := if_pos ⟨nack, counted⟩

theorem countResult_nested {r : Reply} (query : r.cls = .query) :
    countResult .confirm (.reply r) c = { c with nestedQueries := bump c.nestedQueries } := by
  have notNack : ¬ (r.cls = .nack ∧ (ExchangeKind.confirm = .attempt ∨ ExchangeKind.confirm = .confirm)) := by
    rw [query]
    rintro ⟨⟨⟩, -⟩
  exact (if_neg notNack).trans (if_pos ⟨query, rfl⟩)

/-- A NORMAL or BUSY reply raises no counter. -/
theorem countResult_plain {k : ExchangeKind} {r : Reply} (plain : r.cls = .normal ∨ r.cls = .busy) : countResult k (.reply r) c = c := by
  have notNack : r.cls ≠ .nack := by
    obtain cls | cls := plain <;> rw [cls] <;> decide
  have notQuery : r.cls ≠ .query := by
    obtain cls | cls := plain <;> rw [cls] <;> decide
  exact (if_neg fun both => notNack both.1).trans (if_neg fun both => notQuery both.1)

/-- A QUERY reply is counted of a CONFIRM alone. -/
theorem countResult_query {k : ExchangeKind} {r : Reply} (query : r.cls = .query) (other : k ≠ .confirm) :
    countResult k (.reply r) c = c := by
  have notNack : r.cls ≠ .nack := by
    rw [query]
    decide
  exact (if_neg fun both => notNack both.1).trans (if_neg fun both => other both.2)

/-- A reply to a POLL raises no counter. -/
theorem countResult_polled {r : Reply} : countResult .poll (.reply r) c = c := by
  have neither : ¬ (ExchangeKind.poll = .attempt ∨ ExchangeKind.poll = .confirm) := by decide
  have notConfirm : ExchangeKind.poll ≠ .confirm := by decide
  exact (if_neg fun both => neither both.2).trans (if_neg fun both => notConfirm both.2)

/-- The part as an exchange's end leaves it: no context, the counters raised. -/
def State.exchangeEnded (c : LineCounters) (s : State) : State :=
  { s with engine := { s.engine with exchange := none, counters := c } }

theorem endExchange_attempt {t : Transaction} (kind : x.kind = .attempt) (work : s.engine.work = some (.transaction t))
    (count : countResult .attempt result s.engine.counters = c) :
    endExchange x result s = attemptEnd t x result (s.exchangeEnded c) := by
  unfold endExchange
  dsimp only
  rw [kind, count]
  dsimp only
  split
  · rename_i u current
    cases work.symm.trans current
    rfl
  · rename_i other
    exact absurd work (other t)

theorem endExchange_poll (kind : x.kind = .poll) (count : countResult .poll result s.engine.counters = c) :
    endExchange x result s = pollEnd x result (s.exchangeEnded c) := by
  unfold endExchange
  dsimp only
  rw [kind, count]
  rfl

theorem endExchange_verdict {k : ExchangeKind} (kind : x.kind = k) (verdict : k = .confirm ∨ k = .deny)
    (count : countResult k result s.engine.counters = c) : endExchange x result s = verdictEnd result (s.exchangeEnded c) := by
  unfold endExchange
  dsimp only
  obtain rfl | rfl := verdict
  all_goals
    rw [kind, count]
    rfl

end

/-! ### The result of an attempt (Table 3-4) -/

section
variable {t : Transaction} {x : Exchange} {s : State} {r : Reply}

theorem attemptEnd_normal (cls : r.cls = .normal) : attemptEnd t x (.reply r) s = finishWork .done (.reply r) (noteReply r s) := by
  unfold attemptEnd
  dsimp only
  rw [cls]

theorem attemptEnd_nack (cls : r.cls = .nack) : attemptEnd t x (.reply r) s = finishWork .nack (.reply r) (noteReply r s) := by
  unfold attemptEnd
  dsimp only
  rw [cls]

theorem attemptEnd_query (cls : r.cls = .query) : attemptEnd t x (.reply r) s = openReferral x r (noteReply r s) := by
  unfold attemptEnd
  dsimp only
  rw [cls]

theorem attemptEnd_busy (cls : r.cls = .busy) : attemptEnd t x (.reply r) s =
    if s.engine.attempts ≤ t.spec.retryLimit then beginWait (.busyBackoff s.engine.config.busyBackoffMs) (noteReply r s)
    else finishWork .stationBusy (.reply r) (noteReply r s) := by
  unfold attemptEnd retriesRemain
  dsimp only
  rw [cls]
  simp only [decide_eq_true_iff]

theorem attemptEnd_failed (f : Failure) : attemptEnd t x (.failed f) s =
    if s.engine.attempts ≤ t.spec.retryLimit then beginWait (.lineRest 1) s else finishWork f.outcome (.failed f) s := by
  unfold attemptEnd retriesRemain
  simp only [decide_eq_true_iff]
  rfl

end

/-- Settles O53: Table 3-4 row by row, behind the counters of Table 3-7. -/
theorem attemptResultsActed : Obligations.AttemptResultsActed := by
  intro s x t kind work after replied k retries
  refine ⟨fun r cls => ?normal, fun r cls => ?nack, fun r cls remain => ?backoff, fun r cls spent => ?busy, fun r cls => ?query,
    ?sent, fun f => ?failed, ?fault⟩
  case normal => rw [endExchange_attempt kind work (countResult_plain (.inl cls)), attemptEnd_normal cls]; rfl
  case nack => rw [endExchange_attempt kind work (countResult_nack cls (.inl rfl)), attemptEnd_nack cls]; rfl
  case backoff =>
    rw [endExchange_attempt kind work (countResult_plain (.inr cls)), attemptEnd_busy cls]
    exact if_pos remain
  case busy =>
    rw [endExchange_attempt kind work (countResult_plain (.inr cls)), attemptEnd_busy cls]
    exact if_neg spent
  case query => rw [endExchange_attempt kind work (countResult_query cls (by decide)), attemptEnd_query cls]; rfl
  case sent => exact endExchange_attempt kind work rfl
  case failed =>
    intro c
    have count : countResult .attempt (.failed f) k = c := by cases f <;> rfl
    rw [endExchange_attempt kind work count, attemptEnd_failed]
    exact ⟨fun remain => if_pos remain, fun spent => if_neg spent⟩
  case fault => exact endExchange_attempt kind work rfl

/-! ### Referrals and their closing (R85 to R94) -/

/-- Settles O54: the record by the work it interrupts, the verdict by the closure, and the hold timer's claim. -/
theorem referralOpensAndCloses : Obligations.ReferralOpensAndCloses := by
  refine ⟨?opens, fun s r c answer => ⟨?confirm, ?deny⟩, ?expiry⟩
  case opens =>
    intro s x r n o station origin
    unfold openReferral
    obtain ⟨t, work, rfl⟩ | ⟨m, work, rfl⟩ := origin
    all_goals
      rw [work, station]
      rfl
  case confirm =>
    rintro rfl
    rfl
  case deny =>
    rintro (rfl | rfl | rfl)
    all_goals rfl
  case expiry =>
    intro s held r on referral s1
    refine mainEvent_next (s := withLrdy held s) on ?_
    unfold holdTimerExpiry
    rw [withLrdy_engine, referral]
    rfl

/-! ### The next attempt (R49, R51) -/

theorem nextAttempt_transaction {t : Transaction} {s : State} (work : s.engine.work = some (.transaction t)) :
    nextAttempt s = beginAttempt t s := by
  unfold nextAttempt
  rw [work]

/-- A second or later attempt counts as a retry. -/
theorem beginAttempt_again {t : Transaction} {s : State} (begun : 1 ≤ s.engine.attempts) :
    beginAttempt t s = beginExchange .attempt t.spec.frame t.spec.dest.replies { s with engine := { s.engine with
      attempts := s.engine.attempts + 1, wait := none
      counters := { s.engine.counters with retries := bump s.engine.counters.retries } } } := by
  unfold beginAttempt
  dsimp only
  rw [if_pos (Nat.succ_le_succ begun)]

/-- Settles O55: the expiry of each wait begins the attempt it waits for. -/
theorem waitsBeginAttempt : Obligations.WaitsBeginAttempt := by
  intro s held t ms on work begunBefore k begun
  have attempt : serveLink (nextAttempt (withLrdy held s)) = begun := by
    rw [nextAttempt_transaction (s := withLrdy held s) work, beginAttempt_again (s := withLrdy held s) begunBefore]
    rfl
  have expiry : ∀ act : State → State, act (withLrdy held s) = nextAttempt (withLrdy held s) →
      (Host.Outcome.next (mainEvent act (withLrdy held s)) : Result) = .next begun := by
    intro act moves
    rw [← attempt]
    exact mainEvent_next (s := withLrdy held s) on moves
  refine ⟨fun wait => expiry lineRestExpiry ?_, fun wait => expiry busyBackoffExpiry ?_⟩
  · unfold lineRestExpiry
    rw [withLrdy_engine, wait]
  · unfold busyBackoffExpiry
    rw [withLrdy_engine, wait]

/-! ### The results of a poll and of a verdict (R48, R54, Table 2-8) -/

theorem verdictEnd_reply {s : State} {c : Closing} {r : Reply} (closing : s.engine.closing = some c) :
    verdictEnd (.reply r) s = finishWork (verdictOutcome c (.reply r)) (.reply r) (noteReply r s) := by
  unfold verdictEnd
  rw [closing]

/-- Without a reply the end is that of the work. -/
theorem verdictEnd_other {s : State} {c : Closing} {result : AttemptResult} (closing : s.engine.closing = some c)
    (other : ∀ r, result ≠ .reply r) : verdictEnd result s = finishWork (verdictOutcome c result) result s := by
  unfold verdictEnd
  rw [closing]
  cases result with
  | reply r => exact absurd rfl (other r)
  | sent => rfl
  | failed f => rfl
  | lineFault => rfl

/-- A CONFIRM's final reply gives its outcome. -/
theorem verdictOutcome_reply {c : Closing} {r : Reply} {o : TxnOutcome} (accept : c.closure = .answeredAccept)
    (cls : r.cls.confirmOutcome = o) : verdictOutcome c (.reply r) = o := (if_pos accept).trans cls

/-- Settles O60: each result of a POLL, of a CONFIRM and of a DENY. -/
theorem pollAndVerdictResults : Obligations.PollAndVerdictResults := by
  intro s x after replied k
  refine ⟨fun kind => ⟨?pollQuery, ?pollReply, ?_, ?_, ?_, ?_⟩, fun c closing kind accept => ?confirm,
    fun c o closing kind closure => ?deny⟩
  case pollQuery =>
    intro r cls
    rw [endExchange_poll kind countResult_polled]
    exact if_pos cls
  case pollReply =>
    intro r cls
    rw [endExchange_poll kind countResult_polled]
    exact if_neg cls
  case confirm =>
    have reply : ∀ (r : Reply) (n : LineCounters) (o : TxnOutcome), countResult .confirm (.reply r) k = n →
        r.cls.confirmOutcome = o → endExchange x (.reply r) s = finishWork o (.reply r) (replied r n) := by
      intro r n o count cls
      rw [endExchange_verdict kind (.inl rfl) count, verdictEnd_reply (s := s.exchangeEnded n) closing, verdictOutcome_reply accept cls]
      rfl
    have other : ∀ (result : AttemptResult) (n : LineCounters) (o : TxnOutcome), (∀ r, result ≠ .reply r) →
        countResult .confirm result k = n → verdictOutcome c result = o → endExchange x result s = finishWork o result (after n) := by
      intro result n o noReply count outcome
      rw [endExchange_verdict kind (.inl rfl) count, verdictEnd_other (s := s.exchangeEnded n) closing noReply, outcome]
      rfl
    have notCancelled : c.closure ≠ .cancelled := by
      rw [accept]
      decide
    refine ⟨fun r cls => ?_, fun r cls => ?_, fun r cls => ?_, fun r cls => ?_, ?_, ?_, ?_, ?_⟩
    · exact reply r _ _ (countResult_plain (.inl cls)) (by rw [cls]; rfl)
    · exact reply r _ _ (countResult_nack cls (.inr rfl)) (by rw [cls]; rfl)
    · exact reply r _ _ (countResult_nested cls) (by rw [cls]; rfl)
    · exact reply r _ _ (countResult_plain (.inr cls)) (by rw [cls]; rfl)
    · exact other _ _ _ (by simp) rfl (if_pos accept)
    · exact other _ _ _ (by simp) rfl (if_pos accept)
    · exact other _ _ _ (by simp) rfl (if_pos accept)
    · exact other _ _ _ (by simp) rfl (if_neg notCancelled)
  case deny =>
    have outcome : c.closure.denyOutcome = o ∧ c.closure ≠ .answeredAccept := by
      obtain ⟨closed, rfl⟩ | ⟨closed, rfl⟩ | ⟨closed, rfl⟩ := closure
      all_goals
        rw [closed]
        exact ⟨rfl, by decide⟩
    have other : ∀ (result : AttemptResult) (n : LineCounters) (p : TxnOutcome), (∀ r, result ≠ .reply r) →
        countResult .deny result k = n → verdictOutcome c result = p → endExchange x result s = finishWork p result (after n) := by
      intro result n p noReply count gives
      rw [endExchange_verdict kind (.inr rfl) count, verdictEnd_other (s := s.exchangeEnded n) closing noReply, gives]
      rfl
    refine ⟨?_, ?_, ?_⟩
    · exact other _ _ _ (by simp) rfl outcome.1
    · exact other _ _ _ (by simp) rfl ((if_neg outcome.2).trans outcome.1)
    · exact other _ _ _ (by simp) rfl rfl
  all_goals exact endExchange_poll kind rfl

end Sys2Proof.Machine
end

section
/-! SUPPORT. The end of work, step by step (R53, R79, R95). -/

namespace Sys2Proof.Machine

/-! ### Down to the hand-over -/

theorem stationReport_engine (n : Nat) (reply : Option Reply) (failed : Bool) (s : State) :
    (stationReport n reply failed s).engine = s.engine := by
  unfold stationReport
  dsimp only
  split <;> rfl

theorem endReport_engine (r : AttemptResult) (s : State) : (endReport r s).engine = s.engine := by
  unfold endReport
  split
  · exact stationReport_engine _ _ _ s
  · rfl

theorem endReferral_engine (o : TxnOutcome) (r : AttemptResult) (s : State) : (endReferral o r s).engine = s.engine := by
  unfold endReferral
  split <;> rfl

theorem verdict_eq (c : Closure) : c.verdict = if c = .answeredAccept then .confirm else .deny := by
  cases c <;> rfl

/-- The state of an end of work as the hand-over leaves it. -/
def endHanded (o : TxnOutcome) (r : AttemptResult) (s : State) : State := endHandOver o r (endReferral o r (endReport r s))

theorem endTaken_eq (o : TxnOutcome) (r : AttemptResult) (s : State) :
    endTaken o r s = endMember s (endReports r s (endHanded o r s)) := rfl

theorem told_endHanded (o : TxnOutcome) (r : AttemptResult) (s : State) : Told s (endHanded o r s) :=
  (told_endReport r s).trans ((told_endReferral o r _).trans (told_endHandOver o r _))

theorem Told.pausePending {s t : State} (h : Told s t) : t.engine.pausePending = s.engine.pausePending := by
  obtain ⟨n, eq, -⟩ := h.engine
  rw [eq]

/-- The hand-over of a transaction's record. -/
theorem endHandOver_transaction {o : TxnOutcome} {r : AttemptResult} {s : State} {t : Transaction}
    (work : s.engine.work = some (.transaction t)) : endHandOver o r s =
      if t.origin = .host then raise (.txnDone (s.engine.completion t o)) s
      else { s with reports := s.reports ++ [s.engine.completion t o] } := by
  unfold endHandOver
  rw [work]
  dsimp only
  by_cases host : t.origin = .host
  · rw [if_pos host]
    exact handCompletion_host host
  · rw [if_neg host]
    exact handCompletion_schedule host

/-- A poll's end is reported to the Poll Unit. -/
theorem endHandOver_poll {o : TxnOutcome} {r : AttemptResult} {s : State} {n : Nat} (work : s.engine.work = some (.poll n)) :
    endHandOver o r s = pollReport n r s.engine.lastReply s := by
  unfold endHandOver
  rw [work]

/-! ### The records taken ahead of a BUS-STATE -/

section
variable {r : AttemptResult} {s u : State}

theorem ofSchedule_transaction {e : LineEngine} {t : Transaction} (work : e.work = some (.transaction t)) :
    e.ofSchedule = true ↔ t.origin ≠ .host := by
  unfold LineEngine.ofSchedule Transaction.isHost
  rw [work]
  dsimp only
  rw [Bool.not_eq_true', beq_eq_false_iff_ne]

theorem ofSchedule_poll {e : LineEngine} {n : Nat} (work : e.work = some (.poll n)) : e.ofSchedule = false := by
  unfold LineEngine.ofSchedule
  rw [work]

theorem endReports_untold (untold : endTold r s u = false) : endReports r s u = u := by
  refine if_neg ?_
  rintro ⟨-, told⟩
  exact absurd (untold.symm.trans told) (by decide)

theorem endReports_transaction {t : Transaction} (told : endTold r s u = true) (work : u.engine.work = some (.transaction t)) :
    endReports r s u = if t.origin = .host then u else takeReports u := by
  have scheduled := ofSchedule_transaction work
  by_cases host : t.origin = .host
  · rw [if_pos host]
    exact if_neg fun both => scheduled.mp both.1 host
  · rw [if_neg host]
    exact if_pos ⟨scheduled.mpr host, told⟩

theorem endReports_poll {n : Nat} (work : u.engine.work = some (.poll n)) : endReports r s u = u := by
  refine if_neg ?_
  rintro ⟨scheduled, -⟩
  exact absurd ((ofSchedule_poll work).symm.trans scheduled) (by decide)

theorem endTold_fault : endTold .lineFault s u = true := rfl

theorem endTold_pending (pending : u.engine.pausePending = true) : endTold r s u = true := by
  unfold endTold
  rw [pending, Bool.or_true, Bool.true_or]

/-- Without a fault or a pause the end is told where the withdrawal leads to IGNORING. -/
theorem endTold_stuck_iff (other : r ≠ .lineFault) (noPause : u.engine.pausePending = false) :
    endTold r s u = true ↔ u.poll.state ≠ .ignoring ∧ (endMember s u).poll.state = .ignoring := by
  have notFault : (r == .lineFault) = false := beq_eq_false_iff_ne.mpr other
  unfold endTold
  rw [notFault, noPause, Bool.false_or, Bool.false_or, Bool.and_eq_true, bne_iff_ne, beq_iff_eq]

end

/-! ### The state the end leads to -/

section
variable {r : AttemptResult} {u : State}

/-- The work cleared, in a state of the engine. -/
def State.endedAs (st : EngineState) (u : State) : State := { u with engine := { u.engine with
  state := st, pausePending := false, work := none, station := none, attempts := 0, lastReply := none, wait := none,
  exchange := none, closing := none } }

theorem endState_idle (other : r ≠ .lineFault) (noPause : u.engine.pausePending = false) :
    endState r (clearWork u) = u.endedAs .idle := by
  have steady : ¬ (clearWork u).engine.pausePending = true := Bool.eq_false_iff.mp noPause
  have kept : u.endedAs .idle = { u.endedAs .idle with engine := { (u.endedAs .idle).engine with
      pausePending := u.engine.pausePending } } := by
    rw [noPause]
    rfl
  exact (if_neg other).trans ((if_neg steady).trans kept.symm)

theorem endState_paused (other : r ≠ .lineFault) (pending : u.engine.pausePending = true) :
    endState r (clearWork u) = pollEngineStopped (raise (.busState .paused) (u.endedAs .paused)) :=
  (if_neg other).trans (if_pos pending)

theorem endState_fault : endState .lineFault (clearWork u) = pollEngineStopped (raise (.busState .fault) (u.endedAs .fault)) := rfl

end

/-- Settles O56: the hand-over, the records taken where the end is told, the withdrawal, and the state by fault and pause. -/
theorem endOfWorkSteps : Obligations.EndOfWorkSteps := by
  intro s w outcome result work reported closed handed taken cleared told withdrawn stuck
  have report : endReport result s = reported := by
    unfold endReport
    cases result <;> rfl
  have engine : (endReport result s).engine = s.engine := endReport_engine result s
  have referral : endReferral outcome result (endReport result s) = closed := by
    unfold endReferral finalReply
    rw [engine, report]
    simp only [verdict_eq]
    rfl
  have closedEngine : closed.engine = s.engine := by
    rw [← referral, endReferral_engine, engine]
  have closedWork : closed.engine.work = some w := by rw [closedEngine, work]
  have hands : endHanded outcome result s = handed := by
    unfold endHanded
    rw [referral]
    cases w with
    | transaction t =>
      have record : closed.engine.completion t outcome = s.engine.completion t outcome := by rw [closedEngine]
      rw [endHandOver_transaction closedWork, record]
      rfl
    | poll n =>
      rw [endHandOver_poll closedWork, closedEngine]
  have member : ∀ u, endMember s u = withdrawn u := fun _ => rfl
  have handedTold : Told s handed := hands ▸ told_endHanded outcome result s
  have handedWork : handed.engine.work = some w := handedTold.work.trans work
  have takes : endTold result s handed = true → endReports result s handed = taken := by
    intro isTold
    cases w with
    | transaction t => exact endReports_transaction isTold handedWork
    | poll n => exact endReports_poll handedWork
  have ends : endWork outcome result s = endState result (clearWork (withdrawn (endReports result s handed))) := by
    rw [endWork_eq, endTaken_eq, hands, member]
  have pause : (withdrawn (endReports result s handed)).engine.pausePending = s.engine.pausePending := by
    rw [← member, ← hands, ← endTaken_eq]
    exact (told_endTaken outcome result s).pausePending
  refine ⟨fun other noPause => ?idle, fun other pending => ?paused, ?fault, rfl⟩
  case idle =>
    have steady : handed.engine.pausePending = false := handedTold.pausePending.trans noPause
    have isTold : endTold result s handed = true ↔ stuck := endTold_stuck_iff other steady
    have idles := ends.trans (endState_idle other (pause.trans noPause))
    refine ⟨fun free => ?_, fun sticks => ?_⟩
    · rw [idles, endReports_untold (Bool.eq_false_iff.mpr fun h => free (isTold.mp h))]
      rfl
    · rw [idles, takes (isTold.mpr sticks)]
      rfl
  case paused =>
    rw [ends, endState_paused other (pause.trans pending), takes (endTold_pending (handedTold.pausePending.trans pending))]
    rfl
  case fault =>
    rintro rfl
    rw [ends, endState_fault, takes endTold_fault]
    rfl

end Sys2Proof.Machine
end
